-- ==== Sys2Proof/Word.lean ====
section
/-! DEFINITION. The word of the register space and of the tick port: 32 bits, unsigned, bit 0 least significant
(rules R10, R11, R53). -/

namespace Sys2Proof

/-- A 32-bit value: the width of every register access, of the command argument, of the card status word and of the
tick value (rule R9, parameters `REG_BITS`, `ARG_BITS`, `CS_BITS`, `TICK_BITS`). -/
abbrev Word := BitVec 32

end Sys2Proof
end

