-- ==== Sys2Proof/Config.lean ====
section
/-! DEFINITION. The configuration record of rule R9 (what an implementation fixes: layouts, codes, masks, command
indices, the open parameters) and the free value of the model: what the environment does when nothing in the state
says so. The values of the record for this hardware are in Machine/Defaults.lean. -/

namespace Sys2Proof

/-- The response-wait mode of a command: none, short (48 bits) or long (136 bits) (rules R31, R78). -/
inductive WaitMode where
  | none
  | short
  | long
  deriving DecidableEq, Repr

/-- Field values of the three response-wait modes, parameter `WAITRESP_CODE` (rules R9, R33). -/
structure WaitRespCode where
  none  : BitVec 2
  short : BitVec 2
  long  : BitVec 2
  deriving DecidableEq, Repr

/-- Positions of the four fields of CMD: the least significant bit of `CMDINDEX` (6 bits) and of `WAITRESP` (2 bits),
and the bits `WAITINT` and `CPSMEN` (rules R31, R32). -/
structure CmdLayout where
  cmdIndex : Nat
  waitResp : Nat
  waitInt  : Nat
  cpsmEn   : Nat
  deriving DecidableEq, Repr

/-- The ten static status flags, in the order of DOC0's list (rules R35, R37). -/
inductive StaticFlag where
  | ccrcfail
  | dcrcfail
  | ctimeout
  | dtimeout
  | txunderr
  | rxoverr
  | cmdrend
  | cmdsent
  | dataend
  | dbckend
  deriving DecidableEq, Repr

/-- The ten flags as a list, in the same order (rule R37). -/
def StaticFlag.all : List StaticFlag :=
  [.ccrcfail, .dcrcfail, .ctimeout, .dtimeout, .txunderr, .rxoverr, .cmdrend, .cmdsent, .dataend, .dbckend]

/-- A bit position for each of the ten static flags: one such record for STA and one for ICR (rule R35). -/
structure FlagLayout where
  ccrcfail : Nat
  dcrcfail : Nat
  ctimeout : Nat
  dtimeout : Nat
  txunderr : Nat
  rxoverr  : Nat
  cmdrend  : Nat
  cmdsent  : Nat
  dataend  : Nat
  dbckend  : Nat
  deriving DecidableEq, Repr

/-- The position a flag layout gives a flag. -/
def FlagLayout.position (l : FlagLayout) : StaticFlag → Nat
  | .ccrcfail => l.ccrcfail
  | .dcrcfail => l.dcrcfail
  | .ctimeout => l.ctimeout
  | .dtimeout => l.dtimeout
  | .txunderr => l.txunderr
  | .rxoverr  => l.rxoverr
  | .cmdrend  => l.cmdrend
  | .cmdsent  => l.cmdsent
  | .dataend  => l.dataend
  | .dbckend  => l.dbckend

/-- Parameter `LAYOUT` (rule R9): field positions of CMD (R32), STA and ICR (R35), and the least significant bit of
the 6-bit field of RESPCMD (R39). -/
structure Layout where
  cmd     : CmdLayout
  sta     : FlagLayout
  icr     : FlagLayout
  respCmd : Nat
  deriving DecidableEq, Repr

/-- Parameter `ADDR` (rules R9, R51): addresses of the six registers. Documentation only: the model reaches a register
by its name. -/
structure RegAddresses where
  arg     : Nat
  cmd     : Nat
  respCmd : Nat
  resp1   : Nat
  sta     : Nat
  icr     : Nat
  deriving DecidableEq, Repr

/-- Parameter `CS_MASK[0..15]` (rules R9, R152), one field a tag, in the table's order. -/
structure CardStatusMasks where
  seqError         : Word
  eraseReset       : Word
  cardEccDisabled  : Word
  wpEraseSkip      : Word
  cidCsdOverwrite  : Word
  ccError          : Word
  cardEccFailed    : Word
  illegalCommand   : Word
  comCrcError      : Word
  lockUnlockFailed : Word
  wpViolation      : Word
  eraseParam       : Word
  eraseSeqError    : Word
  blockLenError    : Word
  addrMisaligned   : Word
  addrOutOfRange   : Word
  deriving DecidableEq, Repr

/-- Parameter `R6_MASK[0..2]` (rules R9, R159), in check order. -/
structure R6Masks where
  comCrcFailed        : Word
  illegalCmd          : Word
  generalUnknownError : Word
  deriving DecidableEq, Repr

/-- Parameter `CAT_INDEX` (rules R9, R171): the command index of each operation that issues a command. -/
structure CatalogIndices where
  idle             : BitVec 6
  app              : BitVec 6
  appOper          : BitVec 6
  operCond         : BitVec 6
  sendCid          : BitVec 6
  setRelAdd        : BitVec 6
  sendCsd          : BitVec 6
  selDesel         : BitVec 6
  blockLength      : BitVec 6
  writeSingleBlock : BitVec 6
  writeMultiBlock  : BitVec 6
  readSingleBlock  : BitVec 6
  readMultiBlock   : BitVec 6
  stopTransfer     : BitVec 6
  deriving DecidableEq, Repr

/-- Open parameter `P_ACMD41_WAITRESP` (rule R9, decision D13). -/
inductive Acmd41WaitResp where
  | short
  | long
  deriving DecidableEq, Repr

/-- Open parameter `P_OPER_COND_DECODER` (rules R9, R175, decision D14). -/
inductive OperCondDecoder where
  | noPayload
  | longId
  deriving DecidableEq, Repr

/-- The six widths and three counts of rule R9. The types of the model have these widths and its lists these lengths, so
a well-formed record has the one value that `Widths.wellFormed` names; no rule reads them (notes/assumptions/34.md). -/
structure Widths where
  argBits  : Nat
  idxBits  : Nat
  csBits   : Nat
  rcaBits  : Nat
  tickBits : Nat
  regBits  : Nat
  nStatic  : Nat
  nNamed   : Nat
  nR6      : Nat
  deriving DecidableEq, Repr

/-- Parameter `OPC` (rules R9, R76): the opcode number of each operation. -/
structure OpcodeNumbers where
  idle             : BitVec 4
  app              : BitVec 4
  appOper          : BitVec 4
  operCond         : BitVec 4
  sendCid          : BitVec 4
  setRelAdd        : BitVec 4
  sendCsd          : BitVec 4
  selDesel         : BitVec 4
  blockLength      : BitVec 4
  writeSingleBlock : BitVec 4
  writeMultiBlock  : BitVec 4
  readSingleBlock  : BitVec 4
  readMultiBlock   : BitVec 4
  stopTransfer     : BitVec 4
  clrf             : BitVec 4
  deriving DecidableEq, Repr

/-- Parameter `RC` (rules R9, R92): the numbers of the result codes; that of the named card-status error `k` is
`cardBase + k`. -/
structure ResultCodes where
  ok                    : BitVec 8
  timeout               : BitVec 8
  cmdCrcFailed          : BitVec 8
  cmdRespTimeout        : BitVec 8
  cardBase              : BitVec 8
  cardUnspecified       : BitVec 8
  r6ComCrcFailed        : BitVec 8
  r6IllegalCmd          : BitVec 8
  r6GeneralUnknownError : BitVec 8
  deriving DecidableEq, Repr

/-- The configuration record of rule R9, the whole table: the rules read layouts, numbers and masks from it and name no
default. -/
structure Config where
  widths          : Widths
  layout          : Layout
  waitRespCode    : WaitRespCode
  addr            : RegAddresses
  csMask          : CardStatusMasks
  csSummary       : Word
  r6Mask          : R6Masks
  catIndex        : CatalogIndices
  tResp           : Word
  acmd41WaitResp  : Acmd41WaitResp
  operCondDecoder : OperCondDecoder
  opc             : OpcodeNumbers
  rc              : ResultCodes
  deriving DecidableEq, Repr

/-- The payload registers beside RESP1, which hold the rest of a long response, 128 bits with RESP1 (rules R40, R134).
The engine never reads them. Their number is DEDUCED, their names are the family's, PRESUMED:
notes/assumptions/33.md. -/
structure LongPayload where
  resp2 : Word
  resp3 : Word
  resp4 : Word
  deriving DecidableEq, Repr

/-- What the environment (controller, card, tick source) does between two accesses of the engine: the tick source
advances by `ticks` (rule R58), the controller sets the STA bits of `set` (R61), gives the other STA bits any value
`other` (R34, U10) and loads RESPCMD, RESP1 and the other payload registers (R40, R62, R65, R248). It has no way to clear
a static flag (R61). -/
structure EnvAct where
  ticks   : Nat
  set     : Word
  other   : Option Word
  respCmd : Option Word
  resp1   : Option Word
  payload : Option LongPayload
  deriving DecidableEq, Repr, Inhabited

/-- FREE VALUE (notes/assumptions/11.md): the environment's `n`-th act where no script in the state gives it. It has no
body, so nothing can be proved of what it does: the unconstrained oracle of rule R60. -/
opaque Config.freeAct : Nat → EnvAct

end Sys2Proof
end

