-- ==== Sys2Proof/Machine/Defaults.lean ====
section
/-! DEFINITION. The values of the configuration record for this hardware (rule R9, column "value"). The values the spec
marks "from general knowledge, not in source" are so marked here. -/

namespace Sys2Proof.Machine

/-- Positions of the CMD fields: `CMDINDEX` [5:0], `WAITRESP` [7:6], `WAITINT` [8], `CPSMEN` [10] (rule R32).
PRESUMED by the spec (general knowledge, G1): notes/assumptions/4.md. -/
def hardwareCmdLayout : CmdLayout :=
  { cmdIndex := 0, waitResp := 6, waitInt := 8, cpsmEn := 10 }

/-- Positions of the ten static flags, the same in STA and in ICR (rule R35). PRESUMED by the spec (G3):
notes/assumptions/4.md. -/
def hardwareFlagLayout : FlagLayout :=
  { ccrcfail := 0, dcrcfail := 1, ctimeout := 2, dtimeout := 3, txunderr := 4, rxoverr := 5, cmdrend := 6,
    cmdsent := 7, dataend := 8, dbckend := 10 }

/-- The layout of the registers (rules R32, R35, R39). PRESUMED by the spec (G1, G3, G5): notes/assumptions/4.md. -/
def hardwareLayout : Layout :=
  { cmd := hardwareCmdLayout, sta := hardwareFlagLayout, icr := hardwareFlagLayout, respCmd := 0 }

/-- Codes of the response-wait modes (rule R33). PRESUMED by the spec (G2): notes/assumptions/4.md. -/
def hardwareWaitRespCode : WaitRespCode :=
  { none := 0b00#2, short := 0b01#2, long := 0b11#2 }

/-- Register addresses (rule R51), base 0x4001_2C00. PRESUMED by the spec (G4), documentation only:
notes/assumptions/5.md. -/
def hardwareAddresses : RegAddresses :=
  { arg := 0x40012C08, cmd := 0x40012C0C, respCmd := 0x40012C10, resp1 := 0x40012C14, sta := 0x40012C34,
    icr := 0x40012C38 }

/-- Masks of the sixteen named card-status errors (rule R152). PRESUMED by the spec (G6): notes/assumptions/6.md. -/
def hardwareCardStatusMasks : CardStatusMasks :=
  { seqError := 0x00000008#32, eraseReset := 0x00002000#32, cardEccDisabled := 0x00004000#32,
    wpEraseSkip := 0x00008000#32, cidCsdOverwrite := 0x00010000#32, ccError := 0x00100000#32,
    cardEccFailed := 0x00200000#32, illegalCommand := 0x00400000#32, comCrcError := 0x00800000#32,
    lockUnlockFailed := 0x01000000#32, wpViolation := 0x04000000#32, eraseParam := 0x08000000#32,
    eraseSeqError := 0x10000000#32, blockLenError := 0x20000000#32, addrMisaligned := 0x40000000#32,
    addrOutOfRange := 0x80000000#32 }

/-- Masks of the three R6 disqualifying bits (rule R159). PRESUMED by the spec (G8): notes/assumptions/6.md. -/
def hardwareR6Masks : R6Masks :=
  { comCrcFailed := 0x00008000#32, illegalCmd := 0x00004000#32, generalUnknownError := 0x00002000#32 }

/-- Command indices (rule R171): 0, 55, 41, 8, 3, 25, 18, 12 from the source, the others PRESUMED by the spec (G9):
notes/assumptions/7.md. -/
def hardwareCatalogIndices : CatalogIndices :=
  { idle := 0#6, app := 55#6, appOper := 41#6, operCond := 8#6, sendCid := 2#6, setRelAdd := 3#6, sendCsd := 9#6,
    selDesel := 7#6, blockLength := 16#6, writeSingleBlock := 24#6, writeMultiBlock := 25#6, readSingleBlock := 17#6,
    readMultiBlock := 18#6, stopTransfer := 12#6 }

/-- The widths and counts of rule R9. -/
def hardwareWidths : Widths :=
  { argBits := 32, idxBits := 6, csBits := 32, rcaBits := 16, tickBits := 32, regBits := 32, nStatic := 10,
    nNamed := 16, nR6 := 3 }

/-- Opcode numbers (rule R76). -/
def hardwareOpcodes : OpcodeNumbers :=
  { idle := 0x0#4, app := 0x1#4, appOper := 0x2#4, operCond := 0x3#4, sendCid := 0x4#4, setRelAdd := 0x5#4,
    sendCsd := 0x6#4, selDesel := 0x7#4, blockLength := 0x8#4, writeSingleBlock := 0x9#4, writeMultiBlock := 0xA#4,
    readSingleBlock := 0xB#4, readMultiBlock := 0xC#4, stopTransfer := 0xD#4, clrf := 0xE#4 }

/-- Result codes (rule R92). -/
def hardwareResultCodes : ResultCodes :=
  { ok := 0x00#8, timeout := 0x01#8, cmdCrcFailed := 0x02#8, cmdRespTimeout := 0x03#8, cardBase := 0x40#8,
    cardUnspecified := 0x50#8, r6ComCrcFailed := 0x51#8, r6IllegalCmd := 0x52#8, r6GeneralUnknownError := 0x53#8 }

/-- The record of this hardware (rule R9): `T_RESP` = 5000 ticks (notes/assumptions/9.md), the two open parameters at
their default (decisions D13, D14; notes/assumptions/8.md). -/
def hardwareConfig : Config :=
  { widths := hardwareWidths, layout := hardwareLayout, waitRespCode := hardwareWaitRespCode, addr := hardwareAddresses,
    csMask := hardwareCardStatusMasks, csSummary := 0xFDFFE008#32, r6Mask := hardwareR6Masks,
    catIndex := hardwareCatalogIndices, tResp := 5000#32, acmd41WaitResp := .short, operCondDecoder := .noPayload,
    opc := hardwareOpcodes, rc := hardwareResultCodes }

end Sys2Proof.Machine
end

