-- ==== Sys2Proof/Syntax.lean ====
section
/-! DEFINITION. The host operations: one constructor a row of the opcode table (rules R75 to R77), their names and
operand formats, and the program line of rule R93. -/

namespace Sys2Proof

/-- A host operation with its 32-bit operand `q`. Every row carries the whole operand, "always the full 32 bits"
(rule R77), also where no rule reads it. -/
inductive Instr where
  | idle (q : Word)
  | app (q : Word)
  | appOper (q : Word)
  | operCond (q : Word)
  | sendCid (q : Word)
  | setRelAdd (q : Word)
  | sendCsd (q : Word)
  | selDesel (q : Word)
  | blockLength (q : Word)
  | writeSingleBlock (q : Word)
  | writeMultiBlock (q : Word)
  | readSingleBlock (q : Word)
  | readMultiBlock (q : Word)
  | stopTransfer (q : Word)
  | clrf (q : Word)
  deriving DecidableEq, Repr

/-- The operation without its operand (rule R76). -/
inductive Op where
  | idle
  | app
  | appOper
  | operCond
  | sendCid
  | setRelAdd
  | sendCsd
  | selDesel
  | blockLength
  | writeSingleBlock
  | writeMultiBlock
  | readSingleBlock
  | readMultiBlock
  | stopTransfer
  | clrf
  deriving DecidableEq, Repr

/-- The fifteen operations in opcode order (rule R76). -/
def Op.all : List Op :=
  [.idle, .app, .appOper, .operCond, .sendCid, .setRelAdd, .sendCsd, .selDesel, .blockLength, .writeSingleBlock,
   .writeMultiBlock, .readSingleBlock, .readMultiBlock, .stopTransfer, .clrf]

/-- The operation of an instruction. -/
def Instr.op : Instr → Op
  | .idle _ => .idle
  | .app _ => .app
  | .appOper _ => .appOper
  | .operCond _ => .operCond
  | .sendCid _ => .sendCid
  | .setRelAdd _ => .setRelAdd
  | .sendCsd _ => .sendCsd
  | .selDesel _ => .selDesel
  | .blockLength _ => .blockLength
  | .writeSingleBlock _ => .writeSingleBlock
  | .writeMultiBlock _ => .writeMultiBlock
  | .readSingleBlock _ => .readSingleBlock
  | .readMultiBlock _ => .readMultiBlock
  | .stopTransfer _ => .stopTransfer
  | .clrf _ => .clrf

/-- The operand of an instruction. -/
def Instr.operand : Instr → Word
  | .idle q => q
  | .app q => q
  | .appOper q => q
  | .operCond q => q
  | .sendCid q => q
  | .setRelAdd q => q
  | .sendCsd q => q
  | .selDesel q => q
  | .blockLength q => q
  | .writeSingleBlock q => q
  | .writeMultiBlock q => q
  | .readSingleBlock q => q
  | .readMultiBlock q => q
  | .stopTransfer q => q
  | .clrf q => q

/-- The instruction made of an operation and an operand. -/
def Op.withOperand (q : Word) : Op → Instr
  | .idle => .idle q
  | .app => .app q
  | .appOper => .appOper q
  | .operCond => .operCond q
  | .sendCid => .sendCid q
  | .setRelAdd => .setRelAdd q
  | .sendCsd => .sendCsd q
  | .selDesel => .selDesel q
  | .blockLength => .blockLength q
  | .writeSingleBlock => .writeSingleBlock q
  | .writeMultiBlock => .writeMultiBlock q
  | .readSingleBlock => .readSingleBlock q
  | .readMultiBlock => .readMultiBlock q
  | .stopTransfer => .stopTransfer q
  | .clrf => .clrf q

/-- The mnemonics of rule R76. -/
def Op.mnemonic : Op → String
  | .idle => "IDLE"
  | .app => "APP"
  | .appOper => "APP_OPER"
  | .operCond => "OPER_COND"
  | .sendCid => "SEND_CID"
  | .setRelAdd => "SET_REL_ADD"
  | .sendCsd => "SEND_CSD"
  | .selDesel => "SEL_DESEL"
  | .blockLength => "BLOCK_LENGTH"
  | .writeSingleBlock => "WRITE_SINGLE_BLOCK"
  | .writeMultiBlock => "WRITE_MULTI_BLOCK"
  | .readSingleBlock => "READ_SINGLE_BLOCK"
  | .readMultiBlock => "READ_MULTI_BLOCK"
  | .stopTransfer => "STOP_TRANSFER"
  | .clrf => "CLRF"

/-- The operand formats of rule R77: timeout, argument, relative card address, none. -/
inductive OperandFormat where
  | timeout
  | argument
  | rca
  | none
  deriving DecidableEq, Repr

/-- The operand format of each operation (rules R76, R77). -/
def Op.format : Op → OperandFormat
  | .idle => .timeout
  | .app => .argument
  | .appOper => .argument
  | .operCond => .none
  | .sendCid => .none
  | .setRelAdd => .none
  | .sendCsd => .rca
  | .selDesel => .rca
  | .blockLength => .argument
  | .writeSingleBlock => .argument
  | .writeMultiBlock => .argument
  | .readSingleBlock => .argument
  | .readMultiBlock => .argument
  | .stopTransfer => .none
  | .clrf => .none

/-- One line of a program, `MNEMONIC` or `MNEMONIC operand` (rule R93). -/
structure Line where
  op      : Op
  operand : Option Nat
  deriving DecidableEq, Repr

end Sys2Proof
end

