-- ==== Sys2Proof/WellFormed.lean ====
section
/-! DEFINITION. The checks of the syntax and of the configuration record. Every `Instr` is well formed: "Nothing else is
illegal at the host port. Every 32-bit operand is accepted by every operation" (rule R88). What can be ill formed is a
descriptor (opcode 0xF, rule R87), a program line (R93) and a configuration record (R9, R55, R76, R87, R92,
95_test_vectors.md section 3.8; notes/assumptions/32.md). -/

namespace Sys2Proof

/-- A 36-bit descriptor is well formed when its opcode, `D[35:32]`, is not the reserved 0xF (rules R75, R87). -/
def descriptorWellFormed (d : BitVec 36) : Bool :=
  d.extractLsb' 32 4 != 0xF#4

/-- A program line is well formed when it has a 32-bit operand, or has none and its operation uses none (rule R93). -/
def Line.wellFormed (l : Line) : Bool :=
  match l.operand with
  | none => l.op.format == .none
  | some n => n < 2 ^ 32

/-- The fields of CMD lie in the register and are disjoint (95_test_vectors.md section 3.8: "fields are disjoint and of
the stated widths"). -/
def CmdLayout.wellFormed (l : CmdLayout) : Bool :=
  let bits := List.range' l.cmdIndex 6 ++ List.range' l.waitResp 2 ++ [l.waitInt, l.cpsmEn]
  bits.all (· < 32) && decide bits.Nodup

/-- The ten flags lie in the register at ten different positions. -/
def FlagLayout.wellFormed (l : FlagLayout) : Bool :=
  let bits := StaticFlag.all.map l.position
  bits.all (· < 32) && decide bits.Nodup

/-- The echo field of RESPCMD, 6 bits, lies in the register (rule R39). -/
def Layout.respCmdFits (l : Layout) : Bool :=
  l.respCmd + 6 ≤ 32

/-- Every address is a multiple of 4 (rule R55: "A model whose `ADDR` holds a non-multiple-of-4 address is outside
this spec"). -/
def RegAddresses.wellFormed (a : RegAddresses) : Bool :=
  [a.arg, a.cmd, a.respCmd, a.resp1, a.sta, a.icr].all (· % 4 == 0)

/-- The widths of the model's types and the lengths of its lists (rule R9). -/
def Widths.wellFormed (w : Widths) : Bool :=
  w.argBits == 32 && w.idxBits == 6 && w.csBits == 32 && w.rcaBits == 16 && w.tickBits == 32 && w.regBits == 32
    && w.nStatic == StaticFlag.all.length && w.nNamed == 16 && w.nR6 == 3

/-- The fifteen opcode numbers in the order of rule R76. -/
def OpcodeNumbers.all (n : OpcodeNumbers) : List (BitVec 4) :=
  [n.idle, n.app, n.appOper, n.operCond, n.sendCid, n.setRelAdd, n.sendCsd, n.selDesel, n.blockLength,
   n.writeSingleBlock, n.writeMultiBlock, n.readSingleBlock, n.readMultiBlock, n.stopTransfer, n.clrf]

/-- Different operations have different opcodes, and none has the reserved 0xF (rules R76, R87). -/
def OpcodeNumbers.wellFormed (n : OpcodeNumbers) : Bool :=
  decide (0xF#4 :: n.all).Nodup

/-- The 24 result codes: success, the 16 named card-status errors, the other seven errors (rule R92). -/
def ResultCodes.all (r : ResultCodes) : List (BitVec 8) :=
  [r.ok, r.timeout, r.cmdCrcFailed, r.cmdRespTimeout, r.cardUnspecified, r.r6ComCrcFailed, r.r6IllegalCmd,
   r.r6GeneralUnknownError] ++ (List.range 16).map (fun k => r.cardBase + BitVec.ofNat 8 k)

/-- Different results have different codes (rules R92, R160, R202). -/
def ResultCodes.wellFormed (r : ResultCodes) : Bool :=
  decide r.all.Nodup

/-- A configuration record the spec's rules speak of. -/
def Config.wellFormed (c : Config) : Bool :=
  c.widths.wellFormed && c.opc.wellFormed && c.rc.wellFormed && c.layout.cmd.wellFormed && c.layout.sta.wellFormed
    && c.layout.icr.wellFormed && c.layout.respCmdFits && c.addr.wellFormed

end Sys2Proof
end

