-- ==== Sys2Proof/Decode.lean ====
section
/-! DEFINITION. The host operation descriptor (rules R75 to R77): decoder, encoder, the two halves on the host port,
and the assembler of rule R93. -/

namespace Sys2Proof

/-- The opcode number of an operation (rules R9, R76). -/
def Op.code (c : Config) : Op → BitVec 4
  | .idle => c.opc.idle
  | .app => c.opc.app
  | .appOper => c.opc.appOper
  | .operCond => c.opc.operCond
  | .sendCid => c.opc.sendCid
  | .setRelAdd => c.opc.setRelAdd
  | .sendCsd => c.opc.sendCsd
  | .selDesel => c.opc.selDesel
  | .blockLength => c.opc.blockLength
  | .writeSingleBlock => c.opc.writeSingleBlock
  | .writeMultiBlock => c.opc.writeMultiBlock
  | .readSingleBlock => c.opc.readSingleBlock
  | .readMultiBlock => c.opc.readMultiBlock
  | .stopTransfer => c.opc.stopTransfer
  | .clrf => c.opc.clrf

/-- The operation an opcode selects; with the numbers of rule R76, 0xF selects none (rules R87, R90). -/
def Op.ofCode (c : Config) (v : BitVec 4) : Option Op :=
  Op.all.find? fun o => o.code c == v

/-- Why a descriptor is no operation. -/
inductive DecodeError where
  /-- An opcode with no operation, 0xF on this hardware: "no operation is assigned to it" (rule R87). -/
  | reservedOpcode
  deriving DecidableEq, Repr

/-- The opcode half of a descriptor, `D[35:32]` (rule R75). -/
def descriptorOpcode (d : BitVec 36) : BitVec 4 :=
  d.extractLsb' 32 4

/-- The operand half of a descriptor, `D[31:0]` (rule R75). -/
def descriptorOperand (d : BitVec 36) : Word :=
  d.extractLsb' 0 32

/-- The operation of the two host-port registers `x[OP]` and `x[OPERAND]`; it looks at the opcode alone (rule R77). -/
def decodePort (c : Config) (op : BitVec 4) (q : Word) : Except DecodeError Instr :=
  match Op.ofCode c op with
  | some o => .ok (o.withOperand q)
  | none => .error .reservedOpcode

/-- The decoder of a 36-bit descriptor. -/
def decode (c : Config) (d : BitVec 36) : Except DecodeError Instr :=
  decodePort c (descriptorOpcode d) (descriptorOperand d)

/-- The 36-bit descriptor of an operation (rule R75). -/
def encode (c : Config) (i : Instr) : BitVec 36 :=
  i.op.code c ++ i.operand

/-- The descriptor in a table word: bit 0 of the descriptor is bit 0 of the word, bits of the word above `nbits` are 0,
and the word's bits above 35 belong to no descriptor (notes/assumptions/19.md). -/
def tableDescriptor (nbits w : Nat) : BitVec 36 :=
  BitVec.ofNat 36 (w % 2 ^ nbits)

/-- The operation the decoder reads from a word of spec/opcode_table.json, with the numbers of this hardware. -/
def decodeTableWord (nbits w : Nat) : Option Instr :=
  match decode Machine.hardwareConfig (tableDescriptor nbits w) with
  | .ok i => some i
  | .error _ => none

/-- The operation a program line stands for; a line that is not well formed stands for none. A line without operand
encodes `q = 0` (rule R93). -/
def assemble (l : Line) : Option Instr :=
  if l.wellFormed then some (l.op.withOperand (BitVec.ofNat 32 (l.operand.getD 0))) else none

end Sys2Proof
end

