-- ==== Sys2Proof/Machine/Errors.lean ====
section
/-! DEFINITION. The error taxonomy (rules R200 to R203) and the result codes (rule R92). -/

namespace Sys2Proof.Machine

/-- The sixteen named card-status errors, in priority order (rule R152). -/
inductive CardStatusTag where
  | seqError
  | eraseReset
  | cardEccDisabled
  | wpEraseSkip
  | cidCsdOverwrite
  | ccError
  | cardEccFailed
  | illegalCommand
  | comCrcError
  | lockUnlockFailed
  | wpViolation
  | eraseParam
  | eraseSeqError
  | blockLenError
  | addrMisaligned
  | addrOutOfRange
  deriving DecidableEq, Repr

/-- The tags in priority order, `k = 0` first (rule R152). -/
def CardStatusTag.all : List CardStatusTag :=
  [.seqError, .eraseReset, .cardEccDisabled, .wpEraseSkip, .cidCsdOverwrite, .ccError, .cardEccFailed,
   .illegalCommand, .comCrcError, .lockUnlockFailed, .wpViolation, .eraseParam, .eraseSeqError, .blockLenError,
   .addrMisaligned, .addrOutOfRange]

/-- The number `k` of a tag (rule R152). -/
def CardStatusTag.number : CardStatusTag → Nat
  | .seqError => 0
  | .eraseReset => 1
  | .cardEccDisabled => 2
  | .wpEraseSkip => 3
  | .cidCsdOverwrite => 4
  | .ccError => 5
  | .cardEccFailed => 6
  | .illegalCommand => 7
  | .comCrcError => 8
  | .lockUnlockFailed => 9
  | .wpViolation => 10
  | .eraseParam => 11
  | .eraseSeqError => 12
  | .blockLenError => 13
  | .addrMisaligned => 14
  | .addrOutOfRange => 15

/-- The twenty card errors: sixteen named, the catch-all, three of R6, all different (rules R160, R200). -/
inductive CardError where
  | named (t : CardStatusTag)
  | unspecified
  | r6ComCrcFailed
  | r6IllegalCmd
  | r6GeneralUnknownError
  deriving DecidableEq, Repr

/-- The two protocol errors; an echo mismatch is a `cmdCrcFailed` (rules R200, R203). -/
inductive ProtocolError where
  | cmdCrcFailed
  | cmdRespTimeout
  deriving DecidableEq, Repr

/-- The three-tier taxonomy, 23 values (rule R200). -/
inductive EngineError where
  | timeout
  | protocol (e : ProtocolError)
  | card (e : CardError)
  deriving DecidableEq, Repr

/-- Code of a card error (rules R9, R92). -/
def CardError.code (c : Config) : CardError → BitVec 8
  | .named t => c.rc.cardBase + BitVec.ofNat 8 t.number
  | .unspecified => c.rc.cardUnspecified
  | .r6ComCrcFailed => c.rc.r6ComCrcFailed
  | .r6IllegalCmd => c.rc.r6IllegalCmd
  | .r6GeneralUnknownError => c.rc.r6GeneralUnknownError

/-- Code of an error (rules R9, R92). -/
def EngineError.code (c : Config) : EngineError → BitVec 8
  | .timeout => c.rc.timeout
  | .protocol .cmdCrcFailed => c.rc.cmdCrcFailed
  | .protocol .cmdRespTimeout => c.rc.cmdRespTimeout
  | .card e => e.code c

/-- Every error, in the order of rule R201. -/
def EngineError.all : List EngineError :=
  [.timeout, .protocol .cmdRespTimeout, .protocol .cmdCrcFailed] ++ CardStatusTag.all.map (fun t => .card (.named t))
    ++ [.card .unspecified, .card .r6ComCrcFailed, .card .r6IllegalCmd, .card .r6GeneralUnknownError]

end Sys2Proof.Machine
end

