-- ==== Sys2Proof/Machine/Classifier.lean ====
section
/-! DEFINITION. The card-status error classifier and the R6 classifier (43_error_classifier.md): pure functions over an
ordered list of masks and tags (rule R157). -/

namespace Sys2Proof.Machine

/-- The first entry of an ordered list whose mask meets the word: "earlier entries win" (rules R150, R157). -/
def firstMatch {α : Type} (cs : Word) : List (Word × α) → Option α
  | [] => none
  | (m, a) :: rest => if cs &&& m != 0#32 then some a else firstMatch cs rest

/-- `CS_MASK[k]` for the tag of number `k` (rule R152). -/
def cardStatusMask (c : Config) : CardStatusTag → Word
  | .seqError => c.csMask.seqError
  | .eraseReset => c.csMask.eraseReset
  | .cardEccDisabled => c.csMask.cardEccDisabled
  | .wpEraseSkip => c.csMask.wpEraseSkip
  | .cidCsdOverwrite => c.csMask.cidCsdOverwrite
  | .ccError => c.csMask.ccError
  | .cardEccFailed => c.csMask.cardEccFailed
  | .illegalCommand => c.csMask.illegalCommand
  | .comCrcError => c.csMask.comCrcError
  | .lockUnlockFailed => c.csMask.lockUnlockFailed
  | .wpViolation => c.csMask.wpViolation
  | .eraseParam => c.csMask.eraseParam
  | .eraseSeqError => c.csMask.eraseSeqError
  | .blockLenError => c.csMask.blockLenError
  | .addrMisaligned => c.csMask.addrMisaligned
  | .addrOutOfRange => c.csMask.addrOutOfRange

/-- The ordered table of rule R152. -/
def cardStatusTable (c : Config) : List (Word × CardStatusTag) :=
  CardStatusTag.all.map fun t => (cardStatusMask c t, t)

/-- `CLASSIFY(cs)`: the first named error, else the catch-all where a summary bit is set, else none (rules R151, R153,
R154). -/
def classify (c : Config) (cs : Word) : Option CardError :=
  match firstMatch cs (cardStatusTable c) with
  | some t => some (.named t)
  | none => if cs &&& c.csSummary != 0#32 then some .unspecified else none

/-- The three R6 masks in check order (rule R158). -/
def r6Table (c : Config) : List (Word × CardError) :=
  [(c.r6Mask.comCrcFailed, .r6ComCrcFailed), (c.r6Mask.illegalCmd, .r6IllegalCmd),
   (c.r6Mask.generalUnknownError, .r6GeneralUnknownError)]

/-- `CLASSIFY_R6(cs)` (rule R158). -/
def classifyR6 (c : Config) (cs : Word) : Option CardError :=
  firstMatch cs (r6Table c)

end Sys2Proof.Machine
end

