-- ==== Sys2Proof/Machine/Flags.lean ====
section
/-! DEFINITION. The static status flags: their bits in STA and ICR (rules R34 to R37), and what a write of ICR clears
(rules R36, R63). The engine has no flags of its own (rule R28). -/

namespace Sys2Proof.Machine

/-- The mask with a one at position `n` alone. -/
def bitMask (n : Nat) : Word :=
  1#32 <<< n

/-- `M(F)` for a flag of STA (rule R13). -/
def staMask (c : Config) (f : StaticFlag) : Word :=
  bitMask (c.layout.sta.position f)

/-- `M(FC)` for a clear bit of ICR (rule R13). -/
def icrMask (c : Config) (f : StaticFlag) : Word :=
  bitMask (c.layout.icr.position f)

/-- `STATIC_MASK`: the ten clear bits of ICR (rule R37). -/
def staticMask (c : Config) : Word :=
  StaticFlag.all.foldr (fun f m => icrMask c f ||| m) 0#32

/-- `STATIC_MASK_STA`: the ten flags of STA (rule R108). -/
def staticStaMask (c : Config) : Word :=
  StaticFlag.all.foldr (fun f m => staMask c f ||| m) 0#32

/-- `s.F`: whether flag `f` is set in a value of STA (rule R13). -/
def flagSet (c : Config) (f : StaticFlag) (sta : Word) : Bool :=
  sta.getLsbD (c.layout.sta.position f)

/-- Whether a value written to ICR has a one at the clear bit of flag `f` (rule R36). -/
def clearsFlag (c : Config) (f : StaticFlag) (icr : Word) : Bool :=
  icr.getLsbD (c.layout.icr.position f)

/-- The STA flags that a value written to ICR selects for clearing. -/
def selectedFlags (c : Config) (icr : Word) : Word :=
  StaticFlag.all.foldr (fun f m => if clearsFlag c f icr then staMask c f ||| m else m) 0#32

/-- STA after a write of ICR: write-one-to-clear; a zero has no effect, other bits of STA keep their value
(rules R36, R63, R106). -/
def clearFlags (c : Config) (icr sta : Word) : Word :=
  sta &&& ~~~(selectedFlags c icr)

/-- Whether the controller, setting the STA bits of `m`, ends an outstanding command: it does with `CMDSENT`,
`CMDREND`, `CCRCFAIL` or `CTIMEOUT` (rule R43). -/
def endsCommand (c : Config) (m : Word) : Bool :=
  flagSet c .cmdsent m || flagSet c .cmdrend m || flagSet c .ccrcfail m || flagSet c .ctimeout m

end Sys2Proof.Machine
end

