-- ==== Sys2Proof/Machine/Operands.lean ====
section
/-! DEFINITION. What the engine makes of an operand (argument builders, rules R80 to R82), the command word (rules R32,
R33, R79), and the fields it takes out of the response words (rules R39, R84, R86). -/

namespace Sys2Proof.Machine

/-- The five argument builders of rule R80. -/
inductive ArgBuilder where
  | zero
  | verbatim
  | rca
  | acmd41
  | cmd8
  deriving DecidableEq, Repr

/-- The value a builder gives ARG for operand `q` (rules R80 to R82). -/
def buildArgument (b : ArgBuilder) (q : Word) : Word :=
  match b with
  | .zero => 0x00000000#32
  | .verbatim => q
  | .rca => q <<< 16
  | .acmd41 => 0x80100000#32 ||| q
  | .cmd8 => 0x000001AA#32

/-- `WAITRESP_CODE(mode)` (rule R33). -/
def waitRespCode (c : Config) (m : WaitMode) : BitVec 2 :=
  match m with
  | .none => c.waitRespCode.none
  | .short => c.waitRespCode.short
  | .long => c.waitRespCode.long

/-- The 32-bit word that has `v` in the field whose least significant bit is `lo`, and zeros elsewhere. -/
def putField {w : Nat} (lo : Nat) (v : BitVec w) : Word :=
  v.setWidth 32 <<< lo

/-- `CmdWord(idx, mode, waitint, cpsmen)` (rules R79, R102). -/
def cmdWord (c : Config) (idx : BitVec 6) (m : WaitMode) (waitInt cpsmEn : Bool) : Word :=
  putField c.layout.cmd.cmdIndex idx ||| putField c.layout.cmd.waitResp (waitRespCode c m)
    ||| putField c.layout.cmd.waitInt (BitVec.ofBool waitInt) ||| putField c.layout.cmd.cpsmEn (BitVec.ofBool cpsmEn)

/-- Field `CMDINDEX` of a command word (rule R31). -/
def cmdIndexField (c : Config) (w : Word) : BitVec 6 :=
  w.extractLsb' c.layout.cmd.cmdIndex 6

/-- Field `WAITRESP` of a command word (rule R31). -/
def waitRespField (c : Config) (w : Word) : BitVec 2 :=
  w.extractLsb' c.layout.cmd.waitResp 2

/-- Field `WAITINT` of a command word (rule R31). -/
def waitIntField (c : Config) (w : Word) : Bool :=
  w.getLsbD c.layout.cmd.waitInt

/-- Field `CPSMEN` of a command word (rule R31). -/
def cpsmEnField (c : Config) (w : Word) : Bool :=
  w.getLsbD c.layout.cmd.cpsmEn

/-- Field `RESPCMD`, the echoed command index; bits outside it are ignored (rules R39, R84). -/
def echoedIndex (c : Config) (w : Word) : BitVec 6 :=
  w.extractLsb' c.layout.respCmd 6

/-- The Relative Card Address in an R6 status field, its upper half-word (rules R86, R138). -/
def rcaOfStatus (cs : Word) : BitVec 16 :=
  cs.extractLsb' 16 16

end Sys2Proof.Machine
end

