-- ==== Sys2Proof/Machine/Catalog.lean ====
section
/-! DEFINITION. The command catalog as data (rules R170, R171, R187): for each operation that issues a command its
command index, argument builder, response-wait mode, decoder and timeout. Every command is issued with `cpsmen = 1`
and `waitint = 0` (rule R170). -/

namespace Sys2Proof.Machine

/-- What follows the command: the idle wait, or one of the four decoders (rules R118, R130). -/
inductive Decoder where
  | waitSent
  | r1
  | r2
  | r3
  | r6
  deriving DecidableEq, Repr

/-- Where the timeout of the wait comes from: the operand, or `T_RESP` (rules R110, R170). -/
inductive TimeoutSource where
  | operand
  | response
  deriving DecidableEq, Repr

/-- A row of the catalog (rule R171). -/
structure CatalogEntry where
  idx     : BitVec 6
  builder : ArgBuilder
  mode    : WaitMode
  decoder : Decoder
  timeout : TimeoutSource
  deriving DecidableEq, Repr

/-- The mode with which `APP_OPER` issues ACMD41: parameter `P_ACMD41_WAITRESP` (rule R174). -/
def acmd41Mode (c : Config) : WaitMode :=
  match c.acmd41WaitResp with
  | .short => .short
  | .long => .long

/-- The decoder of `OPER_COND`: parameter `P_OPER_COND_DECODER` (rule R175). -/
def operCondDecoder (c : Config) : Decoder :=
  match c.operCondDecoder with
  | .noPayload => .r3
  | .longId => .r2

/-- `IDLE`, CMD0 (rule R172). -/
def idleEntry (c : Config) : CatalogEntry :=
  { idx := c.catIndex.idle, builder := .zero, mode := .none, decoder := .waitSent, timeout := .operand }

/-- `APP`, CMD55 (rule R173). -/
def appEntry (c : Config) : CatalogEntry :=
  { idx := c.catIndex.app, builder := .verbatim, mode := .short, decoder := .r1, timeout := .response }

/-- `APP_OPER`, ACMD41 (rule R174). -/
def appOperEntry (c : Config) : CatalogEntry :=
  { idx := c.catIndex.appOper, builder := .acmd41, mode := acmd41Mode c, decoder := .r3, timeout := .response }

/-- `OPER_COND`, CMD8 (rule R175). -/
def operCondEntry (c : Config) : CatalogEntry :=
  { idx := c.catIndex.operCond, builder := .cmd8, mode := .short, decoder := operCondDecoder c, timeout := .response }

/-- `SEND_CID`, CMD2 (rule R176). -/
def sendCidEntry (c : Config) : CatalogEntry :=
  { idx := c.catIndex.sendCid, builder := .zero, mode := .long, decoder := .r2, timeout := .response }

/-- `SET_REL_ADD`, CMD3 (rule R177). -/
def setRelAddEntry (c : Config) : CatalogEntry :=
  { idx := c.catIndex.setRelAdd, builder := .zero, mode := .short, decoder := .r6, timeout := .response }

/-- `SEND_CSD`, CMD9 (rule R178). -/
def sendCsdEntry (c : Config) : CatalogEntry :=
  { idx := c.catIndex.sendCsd, builder := .rca, mode := .long, decoder := .r2, timeout := .response }

/-- `SEL_DESEL`, CMD7 (rule R179). -/
def selDeselEntry (c : Config) : CatalogEntry :=
  { idx := c.catIndex.selDesel, builder := .rca, mode := .short, decoder := .r1, timeout := .response }

/-- `BLOCK_LENGTH`, CMD16 (rule R180). -/
def blockLengthEntry (c : Config) : CatalogEntry :=
  { idx := c.catIndex.blockLength, builder := .verbatim, mode := .short, decoder := .r1, timeout := .response }

/-- `WRITE_SINGLE_BLOCK`, CMD24 (rule R181). -/
def writeSingleBlockEntry (c : Config) : CatalogEntry :=
  { idx := c.catIndex.writeSingleBlock, builder := .verbatim, mode := .short, decoder := .r1, timeout := .response }

/-- `WRITE_MULTI_BLOCK`, CMD25 (rule R182; engine side only, notes/assumptions/26.md). -/
def writeMultiBlockEntry (c : Config) : CatalogEntry :=
  { idx := c.catIndex.writeMultiBlock, builder := .verbatim, mode := .short, decoder := .r1, timeout := .response }

/-- `READ_SINGLE_BLOCK`, CMD17 (rule R183). -/
def readSingleBlockEntry (c : Config) : CatalogEntry :=
  { idx := c.catIndex.readSingleBlock, builder := .verbatim, mode := .short, decoder := .r1, timeout := .response }

/-- `READ_MULTI_BLOCK`, CMD18 (rule R184; engine side only, notes/assumptions/26.md). -/
def readMultiBlockEntry (c : Config) : CatalogEntry :=
  { idx := c.catIndex.readMultiBlock, builder := .verbatim, mode := .short, decoder := .r1, timeout := .response }

/-- `STOP_TRANSFER`, CMD12 (rule R185). -/
def stopTransferEntry (c : Config) : CatalogEntry :=
  { idx := c.catIndex.stopTransfer, builder := .zero, mode := .short, decoder := .r1, timeout := .response }

/-- The timeout of an entry's wait for operand `q` (rules R110, R170). -/
def entryTimeout (c : Config) (e : CatalogEntry) (q : Word) : Word :=
  match e.timeout with
  | .operand => q
  | .response => c.tResp

/-- The catalog (rule R171); `CLRF` issues no command. -/
def catalog (c : Config) : Op → Option CatalogEntry
  | .idle => some (idleEntry c)
  | .app => some (appEntry c)
  | .appOper => some (appOperEntry c)
  | .operCond => some (operCondEntry c)
  | .sendCid => some (sendCidEntry c)
  | .setRelAdd => some (setRelAddEntry c)
  | .sendCsd => some (sendCsdEntry c)
  | .selDesel => some (selDeselEntry c)
  | .blockLength => some (blockLengthEntry c)
  | .writeSingleBlock => some (writeSingleBlockEntry c)
  | .writeMultiBlock => some (writeMultiBlockEntry c)
  | .readSingleBlock => some (readSingleBlockEntry c)
  | .readMultiBlock => some (readMultiBlockEntry c)
  | .stopTransfer => some (stopTransferEntry c)
  | .clrf => none

end Sys2Proof.Machine
end

