-- ==== Sys2Proof/Machine/State.lean ====
section
/-! DEFINITION. The machine's state (10_state.md), the reasons a step can stop, and the state after reset. -/

namespace Sys2Proof.Machine

/-- The sequencer phase, the engine's only control state (rule R27). -/
inductive Phase where
  | idle
  | arg
  | cmd
  | t0
  | poll
  | clrt
  | crc
  | clrc
  | echo
  | clrf
  | resp
  deriving DecidableEq, Repr

/-- The controller registers the engine reads (rule R41). -/
inductive ReadReg where
  | sta
  | respCmd
  | resp1
  deriving DecidableEq, Repr

/-- The controller registers the host may read between operations: RESPCMD and the response registers (rules R29, R40,
R238), and STA. That the host may read STA is a DESIGN CHOICE: notes/assumptions/36.md. -/
inductive HostReg where
  | sta
  | respCmd
  | resp1
  | resp2
  | resp3
  | resp4
  deriving DecidableEq, Repr

/-- The controller registers the engine writes (rule R41). -/
inductive WriteReg where
  | arg
  | cmd
  | icr
  deriving DecidableEq, Repr

/-- One access of the engine: kind, register, value (rule R73). -/
inductive Event where
  | tick (v : Word)
  | read (r : ReadReg) (v : Word)
  | write (r : WriteReg) (v : Word)
  deriving DecidableEq, Repr

/-- The controller: its registers (rules R29 to R40; ICR holds nothing, R36), the other payload registers (R40,
notes/assumptions/33.md) and whether a command is outstanding (rule R43). -/
structure Controller where
  arg         : Word
  cmd         : Word
  sta         : Word
  respCmd     : Word
  resp1       : Word
  payload     : LongPayload
  outstanding : Bool
  deriving DecidableEq, Repr

/-- The rest of the environment: the tick source's underlying count (rule R58), the acts to come, and the counter of
the free acts drawn when there are none (notes/assumptions/10.md, 11.md). -/
structure Environment where
  tickCount : Nat
  script    : List EnvAct
  draws     : Nat
  deriving DecidableEq, Repr

/-- The machine: the parameter record (R9, R25), the host port (R21, R26), the sequencer and its latches (R24, R27),
the controller, the rest of the environment, and the event history, newest first (R73). -/
structure State where
  cfg         : Config
  op          : BitVec 4
  operand     : Word
  start       : Bool
  result      : BitVec 8
  resultValid : Bool
  rca         : BitVec 16
  rcaValid    : Bool
  busy        : Bool
  pc          : Phase
  lOp         : BitVec 4
  lOperand    : Word
  lIdx        : BitVec 6
  lDeadline   : Word
  lT          : Word
  lS          : Word
  lCs         : Word
  ctrl        : Controller
  env         : Environment
  history     : List Event
  deriving DecidableEq, Repr

/-- Faults of the model, not of the hardware. -/
inductive Fault where
  /-- Raised by the host's read of `x[RESULT]` before the first operation ended (rule R44: "a model faults a read before
  that"; R211: "is a model fault"; 92_eei_decisions.md D21; 93_implementation_defined.md U4: "Never return 0 silently").
  Safe: the model stops where the spec says that it does. -/
  | resultUnwritten
  /-- Raised by the host's read or copy of `x[RCA]` before the first successful `SET_REL_ADD` (the same rules R44, R211,
  D21, U4). Safe. -/
  | rcaUnwritten
  deriving DecidableEq, Repr

/-- Inputs that have no move. -/
inductive Refusal where
  /-- Raised by an arm of `exec` whose instruction has no meaning. No arm of this model is one. Safe. -/
  | notModelled (mnemonic : String)
  /-- Raised by a START of an opcode with no operation, 0xF on this hardware (rules R87, R211, U6: "refused: no
  transition"). Safe. -/
  | reservedOpcode
  /-- Raised by START while `BUSY = 1` (rules R26, R211, U7: "a model gives that input no move"). Safe. -/
  | startWhileBusy
  /-- Raised by a host access to its port, or to the controller, while `BUSY = 1` (rules R21, R22, R238). Safe. -/
  | hostAccessWhileBusy
  /-- Raised by a step in a phase that the running operation does not have (rule R27). No run from reset gets there
  (notes/assumptions/16.md). Safe. -/
  | phaseNotInOperation
  deriving DecidableEq, Repr

/-- Outcomes of a step. -/
abbrev Outcome := Host.Outcome State Fault Refusal

/-- The controller right after reset. PRESUMED (the family's values, G15): notes/assumptions/12.md; that no command is
outstanding is a DESIGN CHOICE: notes/assumptions/21.md. -/
def Controller.reset : Controller :=
  { arg := 0#32, cmd := 0#32, sta := 0#32, respCmd := 0#32, resp1 := 0#32,
    payload := { resp2 := 0#32, resp3 := 0#32, resp4 := 0#32 }, outstanding := false }

/-- The environment right after reset: nothing scripted, so every answer is a free act. -/
def Environment.reset : Environment :=
  { tickCount := 0, script := [], draws := 0 }

/-- The machine right after reset: `PH_IDLE`, `BUSY = 0`, nothing accessed (rules R44, R45, R230). The registers for
which the spec gives no value hold 0, DESIGN CHOICE: notes/assumptions/13.md. -/
def State.reset : State :=
  { cfg := hardwareConfig, op := 0#4, operand := 0#32, start := false, result := 0#8, resultValid := false,
    rca := 0#16, rcaValid := false, busy := false, pc := .idle, lOp := 0#4, lOperand := 0#32, lIdx := 0#6,
    lDeadline := 0#32, lT := 0#32, lS := 0#32, lCs := 0#32, ctrl := Controller.reset, env := Environment.reset,
    history := [] }

end Sys2Proof.Machine
end

