-- ==== Sys2Proof/Machine/Ops.lean ====
section
/-! DEFINITION. The named operations over the register space and the tick port (20_memory.md), the environment's act
before an access, START (rule R26), and the closing step: success, and `raise`, the taking of an error (rule R207).
There is no return from an error (rule R209). -/

namespace Sys2Proof.Machine

/-- What the environment does next: the script's head, or a free act (rule R60; notes/assumptions/10.md, 11.md). -/
def Environment.nextAct (e : Environment) : EnvAct :=
  match e.script with
  | a :: _ => a
  | [] => Config.freeAct e.draws

/-- The environment after an act: the tick source has advanced (rule R58). -/
def Environment.advance (e : Environment) : Environment :=
  { tickCount := e.tickCount + e.nextAct.ticks, script := e.script.tail, draws := e.draws + 1 }

/-- STA after an act: static flags are set and never cleared (rule R61), other bits take any value (R34, U10). -/
def actOnSta (c : Config) (a : EnvAct) (sta : Word) : Word :=
  (match a.other with
    | some v => (sta &&& staticStaMask c) ||| (v &&& ~~~(staticStaMask c))
    | none => sta) ||| a.set

/-- The controller after an act: flags set, response registers loaded at will (rules R61, R62, R65), the outstanding
command ended by a terminal flag (rule R43). ARG and CMD are the engine's to write. -/
def Controller.act (c : Config) (a : EnvAct) (k : Controller) : Controller :=
  { k with
    sta := actOnSta c a k.sta
    respCmd := a.respCmd.getD k.respCmd
    resp1 := a.resp1.getD k.resp1
    payload := a.payload.getD k.payload
    outstanding := k.outstanding && !endsCommand c a.set }

/-- The controller and the tick source act: they may do so between any two accesses (rule R14). -/
def environmentActs (s : State) : State :=
  { s with ctrl := s.ctrl.act s.cfg s.env.nextAct, env := s.env.advance }

/-- `A_R` of a register the engine reads (rule R51; documentation only, notes/assumptions/5.md). -/
def ReadReg.address (c : Config) : ReadReg → Nat
  | .sta => c.addr.sta
  | .respCmd => c.addr.respCmd
  | .resp1 => c.addr.resp1

/-- `A_R` of a register the engine writes (rule R51; documentation only, notes/assumptions/5.md). -/
def WriteReg.address (c : Config) : WriteReg → Nat
  | .arg => c.addr.arg
  | .cmd => c.addr.cmd
  | .icr => c.addr.icr

/-- The value a register the engine reads holds (rule R41). -/
def Controller.read (k : Controller) : ReadReg → Word
  | .sta => k.sta
  | .respCmd => k.respCmd
  | .resp1 => k.resp1

/-- The value a register the host reads holds (rules R40, R238, R248). -/
def Controller.hostRead (k : Controller) : HostReg → Word
  | .sta => k.sta
  | .respCmd => k.respCmd
  | .resp1 => k.resp1
  | .resp2 => k.payload.resp2
  | .resp3 => k.payload.resp3
  | .resp4 => k.payload.resp4

/-- The effect of a whole-word write on the controller: ARG stores the argument, CMD with `CPSMEN = 1` makes a command
outstanding, ICR clears flags (rules R53, R56, R62, R63). -/
def Controller.write (c : Config) (v : Word) (k : Controller) : WriteReg → Controller
  | .arg => { k with arg := v }
  | .cmd => { k with cmd := v, outstanding := k.outstanding || cpsmEnField c v }
  | .icr => { k with sta := clearFlags c v k.sta }

/-- The tick port's value: the low 32 bits of the underlying count (rules R58, R213). -/
def tickValue (s : State) : Word :=
  BitVec.ofNat 32 s.env.tickCount

/-- The value `MemRead(A_R, 4)` returns: what the register holds after the environment's act (rules R12, R53, R60). -/
def readValue (r : ReadReg) (s : State) : Word :=
  (environmentActs s).ctrl.read r

/-- The state after `MemRead(A_R, 4)`: the access is in the event history (rule R73); a read has no side effect of its
own (rule R56). -/
def afterRead (r : ReadReg) (s : State) : State :=
  { environmentActs s with history := .read r (readValue r s) :: s.history }

/-- The state after `MemWrite(A_R, 4, v)`: the register's effect on the controller, and the access in the event history
(rules R12, R53, R73). -/
def memWrite (r : WriteReg) (v : Word) (s : State) : State :=
  { environmentActs s with
    ctrl := (environmentActs s).ctrl.write s.cfg v r
    history := .write r v :: s.history }

/-- The value `TickRead()` returns (rule R58). -/
def tickReadValue (s : State) : Word :=
  tickValue (environmentActs s)

/-- The state after `TickRead()`: the access is in the event history (rule R73). -/
def afterTickRead (s : State) : State :=
  { environmentActs s with history := .tick (tickReadValue s) :: s.history }

/-- `pc <- P` (rule R12). -/
def goto (p : Phase) (s : State) : State :=
  { s with pc := p }

/-- START: the descriptor is latched, `BUSY <- 1`, the strobe is taken, the phase is the operation's first; with
`BUSY = 1` the input has no move (rule R26). -/
def startOperation (code : BitVec 4) (q : Word) (first : Phase) (s : State) : Outcome :=
  if s.busy then .refused .startWhileBusy
  else .next { s with lOp := code, lOperand := q, busy := true, start := false, pc := first }

/-- The closing step: `x[RESULT]` receives the code, `BUSY <- 0`, `pc <- PH_IDLE` (rules R22, R26). -/
def closeWith (code : BitVec 8) (s : State) : State :=
  { s with result := code, resultValid := true, busy := false, pc := .idle }

/-- The operation ends with success (rules R26, R92). -/
def closeOk (s : State) : State :=
  closeWith s.cfg.rc.ok s

/-- `SET_REL_ADD` ends with success: the closing step also writes `x[RCA]` (rules R23, R26, R138). -/
def closeWithRca (r : BitVec 16) (s : State) : State :=
  closeOk { s with rca := r, rcaValid := true }

/-- `raise E`: taking an error. No further access, `x[RESULT] <- code(E)`, `x[RCA]` unchanged, `BUSY <- 0`,
`pc <- PH_IDLE`; nothing else is saved (rules R12, R207). -/
def raiseError (e : EngineError) (s : State) : State :=
  closeWith (e.code s.cfg) s

end Sys2Proof.Machine
end

