-- ==== Sys2Proof/Machine/WaitEngine.lean ====
section
/-! DEFINITION. The Command Dispatcher (rules R100 to R103), the Response Wait Engine and the idle wait
(41_wait_engine.md), phase by phase. -/

namespace Sys2Proof.Machine

/-- Phase `PH_ARG`: `MemWrite(A_ARG, 4, arg)` (rules R27, R101). -/
def writeArgument (arg : Word) (s : State) : State :=
  goto .cmd (memWrite .arg arg s)

/-- Phase `PH_CMD`: `MemWrite(A_CMD, 4, CmdWord(idx, mode, 0, 1))` and `L_IDX <- idx` (rules R27, R101, R170). -/
def writeCommand (idx : BitVec 6) (m : WaitMode) (s : State) : State :=
  goto .t0 { memWrite .cmd (cmdWord s.cfg idx m false true) s with lIdx := idx }

/-- Phase `PH_T0`: `now <- TickRead(); L_DEADLINE <- now + T` modulo 2^32 (rules R27, R111). -/
def captureDeadline (timeout : Word) (s : State) : State :=
  goto .poll { afterTickRead s with lDeadline := tickReadValue s + timeout }

/-- One sample: `L_T <- TickRead(); L_S <- MemRead(A_STA, 4)`, in this order (rules R27, R112). -/
def takeSample (s : State) : State :=
  { afterRead .sta (afterTickRead s) with lT := tickReadValue s, lS := readValue .sta (afterTickRead s) }

/-- What a sample says of a wait (rules R112, R114, R118). -/
inductive Verdict where
  | expired
  | hwTimeout
  | done
  | again
  deriving DecidableEq, Repr

/-- `L_T >=u L_DEADLINE` (rules R11, R112). -/
def deadlineReached (t deadline : Word) : Bool :=
  deadline.ule t

/-- `WAIT_BASIC` on a sample: deadline, then hardware timeout, then response or CRC failure (rules R112, R114). -/
def basicVerdict (c : Config) (deadline t sta : Word) : Verdict :=
  if deadlineReached t deadline then .expired
  else if flagSet c .ctimeout sta then .hwTimeout
  else if flagSet c .ccrcfail sta || flagSet c .cmdrend sta then .done
  else .again

/-- `WAIT_SENT` on a sample: deadline, then command sent; no other flag is tested (rule R118). -/
def sentVerdict (c : Config) (deadline t sta : Word) : Verdict :=
  if deadlineReached t deadline then .expired
  else if flagSet c .cmdsent sta then .done
  else .again

/-- The wait of a decoder on a sample (rule R130). -/
def Decoder.verdict (d : Decoder) (c : Config) (deadline t sta : Word) : Verdict :=
  match d with
  | .waitSent => sentVerdict c deadline t sta
  | .r1 => basicVerdict c deadline t sta
  | .r2 => basicVerdict c deadline t sta
  | .r3 => basicVerdict c deadline t sta
  | .r6 => basicVerdict c deadline t sta

/-- Where a wait that ended well goes: the idle wait ends the operation, `DEC_R3` clears the flags, the others look at
the CRC (rules R115, R116, R118, R135). -/
def afterWait (d : Decoder) (s : State) : State :=
  match d with
  | .waitSent => closeOk s
  | .r3 => goto .clrf s
  | .r1 => goto .crc s
  | .r2 => goto .crc s
  | .r6 => goto .crc s

/-- The end of a poll iteration, from the latched sample alone (rule R112). -/
def pollOutcome (d : Decoder) (s : State) : State :=
  match d.verdict s.cfg s.lDeadline s.lT s.lS with
  | .expired => raiseError .timeout s
  | .hwTimeout => goto .clrt s
  | .done => afterWait d s
  | .again => goto .poll s

/-- Phase `PH_POLL`: one sample and its outcome (rules R27, R112, R118). -/
def pollOnce (d : Decoder) (s : State) : State :=
  pollOutcome d (takeSample s)

/-- Phase `PH_CLRT`: `MemWrite(A_ICR, 4, M(CTIMEOUTC))`, then `raise CmdRespTimeout` (rules R106, R113). -/
def clearHwTimeout (s : State) : State :=
  raiseError (.protocol .cmdRespTimeout) (memWrite .icr (icrMask s.cfg .ctimeout) s)

/-- Phase `PH_CLRC`: `MemWrite(A_ICR, 4, M(CCRCFAILC))`, then `raise CmdCrcFailed` (rules R106, R115). -/
def clearCrcFail (s : State) : State :=
  raiseError (.protocol .cmdCrcFailed) (memWrite .icr (icrMask s.cfg .ccrcfail) s)

end Sys2Proof.Machine
end

