-- ==== Sys2Proof/Machine/Decoders.lean ====
section
/-! DEFINITION. The response decoders (42_response_decoders.md), phase by phase, and the phase table of a catalog
operation (rules R27, R170). -/

namespace Sys2Proof.Machine

/-- Whether the operation waits for a response: all but the idle wait (rules R116, R118). -/
def Decoder.waitsForResponse : Decoder → Bool
  | .waitSent => false
  | .r1 => true
  | .r2 => true
  | .r3 => true
  | .r6 => true

/-- Whether the decoder uses `WAIT_CRC` (rule R130). -/
def Decoder.checksCrc : Decoder → Bool
  | .waitSent => false
  | .r1 => true
  | .r2 => true
  | .r3 => false
  | .r6 => true

/-- Whether the decoder checks the echoed index and reads a status (rules R131, R134, R135, R136). -/
def Decoder.readsStatus : Decoder → Bool
  | .waitSent => false
  | .r1 => true
  | .r2 => false
  | .r3 => false
  | .r6 => true

/-- Phase `PH_CRC`: a fresh read of STA; only `CCRCFAIL` of it is tested (rules R27, R115). -/
def inspectCrc (d : Decoder) (s : State) : State :=
  if flagSet s.cfg .ccrcfail (readValue .sta s) then goto .clrc (afterRead .sta s)
  else if d.readsStatus then goto .echo (afterRead .sta s)
  else goto .clrf (afterRead .sta s)

/-- Phase `PH_ECHO`: the echoed index against the index issued; a mismatch raises `CmdCrcFailed` and clears nothing
(rules R27, R132). -/
def checkEcho (s : State) : State :=
  if echoedIndex s.cfg (readValue .respCmd s) = s.lIdx then goto .clrf (afterRead .respCmd s)
  else raiseError (.protocol .cmdCrcFailed) (afterRead .respCmd s)

/-- `CLRF()`: one write of `STATIC_MASK` to ICR (rules R105, R106). -/
def clearStaticFlags (s : State) : State :=
  memWrite .icr (staticMask s.cfg) s

/-- Phase `PH_CLRF` of a decoder: on to the status, or the end (rules R27, R131, R134, R135, R136). -/
def clearAfterResponse (d : Decoder) (s : State) : State :=
  if d.readsStatus then goto .resp (clearStaticFlags s) else closeOk (clearStaticFlags s)

/-- The end of `DEC_R1` (rule R131). -/
def finishR1 (s : State) : State :=
  match classify s.cfg s.lCs with
  | some e => raiseError (.card e) s
  | none => closeOk s

/-- The end of `DEC_R6`: an R6 error, or the RCA delivered (rules R136, R138). -/
def finishR6 (s : State) : State :=
  match classifyR6 s.cfg s.lCs with
  | some e => raiseError (.card e) s
  | none => closeWithRca (rcaOfStatus s.lCs) s

/-- `L_CS <- MemRead(A_RESP1, 4)` (rule R133). -/
def readStatus (s : State) : State :=
  { afterRead .resp1 s with lCs := readValue .resp1 s }

/-- Phase `PH_RESP`: the status is read and classified (rules R27, R131, R136). The three decoders without a status
phase never get here (see `runCommand`). -/
def interpretStatus (d : Decoder) (s : State) : State :=
  match d with
  | .r6 => finishR6 (readStatus s)
  | .r1 => finishR1 (readStatus s)
  | .waitSent => closeOk (readStatus s)
  | .r2 => closeOk (readStatus s)
  | .r3 => closeOk (readStatus s)

/-- A phase that only some operations have: its step where the operation has it, else a refusal. -/
def phaseStep (has : Bool) (t : State) : Outcome :=
  if has then .next t else .refused .phaseNotInOperation

/-- One step of a catalog operation, by the phase (rules R27, R170): START, DISPATCH, the wait and the decoder. -/
def runCommand (e : CatalogEntry) (code : BitVec 4) (q : Word) (s : State) : Outcome :=
  match s.pc with
  | .idle => startOperation code q .arg s
  | .arg => .next (writeArgument (buildArgument e.builder q) s)
  | .cmd => .next (writeCommand e.idx e.mode s)
  | .t0 => .next (captureDeadline (entryTimeout s.cfg e q) s)
  | .poll => .next (pollOnce e.decoder s)
  | .clrt => phaseStep e.decoder.waitsForResponse (clearHwTimeout s)
  | .crc => phaseStep e.decoder.checksCrc (inspectCrc e.decoder s)
  | .clrc => phaseStep e.decoder.checksCrc (clearCrcFail s)
  | .echo => phaseStep e.decoder.readsStatus (checkEcho s)
  | .clrf => phaseStep e.decoder.waitsForResponse (clearAfterResponse e.decoder s)
  | .resp => phaseStep e.decoder.readsStatus (interpretStatus e.decoder s)

/-- One step of `CLRF` as a host operation: START, then the write and the end (rules R27, R186). -/
def runClearFlags (code : BitVec 4) (q : Word) (s : State) : Outcome :=
  match s.pc with
  | .idle => startOperation code q .clrf s
  | .clrf => .next (closeOk (clearStaticFlags s))
  | .arg => .refused .phaseNotInOperation
  | .cmd => .refused .phaseNotInOperation
  | .t0 => .refused .phaseNotInOperation
  | .poll => .refused .phaseNotInOperation
  | .clrt => .refused .phaseNotInOperation
  | .crc => .refused .phaseNotInOperation
  | .clrc => .refused .phaseNotInOperation
  | .echo => .refused .phaseNotInOperation
  | .resp => .refused .phaseNotInOperation

end Sys2Proof.Machine
end

