-- ==== Sys2Proof/Machine/Block.lean ====
section
/-! DEFINITION. The block operations (44_command_catalog.md section 3). -/

namespace Sys2Proof.Machine

/-- `BLOCK_LENGTH q` (rule R180). -/
def execBlockLength (q : Word) (s : State) : Outcome :=
  runCommand (blockLengthEntry s.cfg) (Op.blockLength.code s.cfg) q s

/-- `WRITE_SINGLE_BLOCK q` (rule R181). -/
def execWriteSingleBlock (q : Word) (s : State) : Outcome :=
  runCommand (writeSingleBlockEntry s.cfg) (Op.writeSingleBlock.code s.cfg) q s

/-- `WRITE_MULTI_BLOCK q` (rule R182; unvalidated on real hardware, notes/assumptions/26.md). -/
def execWriteMultiBlock (q : Word) (s : State) : Outcome :=
  runCommand (writeMultiBlockEntry s.cfg) (Op.writeMultiBlock.code s.cfg) q s

/-- `READ_SINGLE_BLOCK q` (rule R183). -/
def execReadSingleBlock (q : Word) (s : State) : Outcome :=
  runCommand (readSingleBlockEntry s.cfg) (Op.readSingleBlock.code s.cfg) q s

/-- `READ_MULTI_BLOCK q` (rule R184; unvalidated on real hardware, notes/assumptions/26.md). -/
def execReadMultiBlock (q : Word) (s : State) : Outcome :=
  runCommand (readMultiBlockEntry s.cfg) (Op.readMultiBlock.code s.cfg) q s

/-- `STOP_TRANSFER` (rule R185). -/
def execStopTransfer (q : Word) (s : State) : Outcome :=
  runCommand (stopTransferEntry s.cfg) (Op.stopTransfer.code s.cfg) q s

end Sys2Proof.Machine
end

