-- ==== Sys2Proof/Machine/FlagClear.lean ====
section
/-! DEFINITION. The Status Flag Manager as a host operation (44_command_catalog.md section 4). -/

namespace Sys2Proof.Machine

/-- `CLRF` (rule R186). -/
def execClrf (q : Word) (s : State) : Outcome :=
  runClearFlags (Op.clrf.code s.cfg) q s

end Sys2Proof.Machine
end

