-- ==== Sys2Proof/Machine/Initialization.lean ====
section
/-! DEFINITION. The initialization operations (44_command_catalog.md section 2): each is the step that the operation
takes in the present phase. -/

namespace Sys2Proof.Machine

/-- `IDLE q` (rule R172). -/
def execIdle (q : Word) (s : State) : Outcome :=
  runCommand (idleEntry s.cfg) (Op.idle.code s.cfg) q s

/-- `APP q` (rule R173). -/
def execApp (q : Word) (s : State) : Outcome :=
  runCommand (appEntry s.cfg) (Op.app.code s.cfg) q s

/-- `APP_OPER q` (rule R174). -/
def execAppOper (q : Word) (s : State) : Outcome :=
  runCommand (appOperEntry s.cfg) (Op.appOper.code s.cfg) q s

/-- `OPER_COND` (rule R175). -/
def execOperCond (q : Word) (s : State) : Outcome :=
  runCommand (operCondEntry s.cfg) (Op.operCond.code s.cfg) q s

/-- `SEND_CID` (rule R176). -/
def execSendCid (q : Word) (s : State) : Outcome :=
  runCommand (sendCidEntry s.cfg) (Op.sendCid.code s.cfg) q s

/-- `SET_REL_ADD` (rule R177). -/
def execSetRelAdd (q : Word) (s : State) : Outcome :=
  runCommand (setRelAddEntry s.cfg) (Op.setRelAdd.code s.cfg) q s

/-- `SEND_CSD q` (rule R178). -/
def execSendCsd (q : Word) (s : State) : Outcome :=
  runCommand (sendCsdEntry s.cfg) (Op.sendCsd.code s.cfg) q s

/-- `SEL_DESEL q` (rule R179). -/
def execSelDesel (q : Word) (s : State) : Outcome :=
  runCommand (selDeselEntry s.cfg) (Op.selDesel.code s.cfg) q s

end Sys2Proof.Machine
end

