-- ==== Sys2Proof/Machine/Dispatch.lean ====
section
/-! DEFINITION. One arm a host operation: the step it takes in the present phase. -/

namespace Sys2Proof.Machine

def exec (i : Instr) (s : State) : Host.Outcome State Fault Refusal :=
  match i with
  | .idle q => Sys2Proof.Machine.execIdle q s
  | .app q => Sys2Proof.Machine.execApp q s
  | .appOper q => Sys2Proof.Machine.execAppOper q s
  | .operCond q => Sys2Proof.Machine.execOperCond q s
  | .sendCid q => Sys2Proof.Machine.execSendCid q s
  | .setRelAdd q => Sys2Proof.Machine.execSetRelAdd q s
  | .sendCsd q => Sys2Proof.Machine.execSendCsd q s
  | .selDesel q => Sys2Proof.Machine.execSelDesel q s
  | .blockLength q => Sys2Proof.Machine.execBlockLength q s
  | .writeSingleBlock q => Sys2Proof.Machine.execWriteSingleBlock q s
  | .writeMultiBlock q => Sys2Proof.Machine.execWriteMultiBlock q s
  | .readSingleBlock q => Sys2Proof.Machine.execReadSingleBlock q s
  | .readMultiBlock q => Sys2Proof.Machine.execReadMultiBlock q s
  | .stopTransfer q => Sys2Proof.Machine.execStopTransfer q s
  | .clrf q => Sys2Proof.Machine.execClrf q s

end Sys2Proof.Machine
end

