-- ==== Sys2Proof/Machine/HostPort.lean ====
section
/-! DEFINITION. The host's moves (rules R21, R26, R70, R94, R211, R230, R231, R238) and where a step finds its
operation. -/

namespace Sys2Proof.Machine

/-- A move the host has only while `BUSY = 0` (rules R21, R238). -/
def hostMove {α : Type} (s : State) (answer : Host.Outcome α Fault Refusal) : Host.Outcome α Fault Refusal :=
  if s.busy then .refused .hostAccessWhileBusy else answer

/-- The host writes `x[OP]`. -/
def hostWriteOp (v : BitVec 4) (s : State) : Outcome :=
  hostMove s (.next { s with op := v })

/-- The host writes `x[OPERAND]`. -/
def hostWriteOperand (v : Word) (s : State) : Outcome :=
  hostMove s (.next { s with operand := v })

/-- The host asserts START: no move while `BUSY = 1` (rule R26) or with an opcode that has no operation (rules R87,
R238). Whether the host has written both in-registers before is not checked, DESIGN CHOICE: notes/assumptions/35.md. -/
def hostStart (s : State) : Outcome :=
  if s.busy then .refused .startWhileBusy
  else if Op.ofCode s.cfg s.op = none then .refused .reservedOpcode
  else .next { s with start := true }

/-- The host reads `x[RESULT]`: a fault where nothing was written yet (rules R22, R44, R211, D21, U4). -/
def hostReadResult (s : State) : Host.Outcome (BitVec 8) Fault Refusal :=
  hostMove s (if s.resultValid then .next s.result else .fault .resultUnwritten)

/-- The host reads `x[RCA]`: a fault where nothing was written yet (rules R23, R44, R211, D21, U4). -/
def hostReadRca (s : State) : Host.Outcome (BitVec 16) Fault Refusal :=
  hostMove s (if s.rcaValid then .next s.rca else .fault .rcaUnwritten)

/-- The host copies `x[RCA]` into the next operand (rules R94, R247): a read of `x[RCA]`, with its fault. -/
def hostCopyRca (s : State) : Outcome :=
  hostMove s (if s.rcaValid then .next { s with operand := s.rca.setWidth 32 } else .fault .rcaUnwritten)

/-- The host reads BUSY, at any time (rule R21). -/
def hostReadBusy (s : State) : Bool :=
  s.busy

/-- The host reads a register of the controller between operations, the environment acting first: so it fetches CID, CSD
and OCR (rules R238, R248). It is no access of the engine and enters no history. For STA, which R238 does not name, the
read between operations and its refusal while `BUSY = 1` are a DESIGN CHOICE: notes/assumptions/36.md. -/
def hostReadController (r : HostReg) (s : State) : Host.Outcome (Word × State) Fault Refusal :=
  hostMove s (.next ((environmentActs s).ctrl.hostRead r, environmentActs s))

/-- The host puts one operation on the port and asserts START: a program line of rule R93. -/
def hostIssue (i : Instr) (s : State) : Outcome :=
  hostMove s (.next { s with op := i.op.code s.cfg, operand := i.operand, start := true })

/-- Reset of the engine, at any time: an operation is abandoned, the controller and a command outstanding in it stay
(rules R44, R45, R230, R231; notes/assumptions/24.md). -/
def engineReset (s : State) : State :=
  { State.reset with cfg := s.cfg, ctrl := s.ctrl, env := s.env, history := s.history }

/-- The descriptor the engine acts on: the host port's where it is idle, the latched one while it runs (rules R26,
R70). -/
def currentOperation (s : State) : Except DecodeError Instr :=
  match s.pc with
  | .idle => decodePort s.cfg s.op s.operand
  | _ => decodePort s.cfg s.lOp s.lOperand

/-- A descriptor on the host port of an idle engine with START asserted. -/
def placeDescriptor (d : BitVec 36) (s : State) : State :=
  { s with op := descriptorOpcode d, operand := descriptorOperand d, start := true, busy := false, pc := .idle }

end Sys2Proof.Machine
end

