-- ==== Sys2Proof/Machine/Step.lean ====
section
/-! DEFINITION. One step of the machine: one phase transition of the engine (rules R14, R26, R27). -/

namespace Sys2Proof.Machine

/-- The step of the operation on hand; a reserved opcode has none (rule R87). -/
def runCurrent (s : State) : Host.Outcome State Fault Refusal :=
  match currentOperation s with
  | .ok i => exec i s
  | .error .reservedOpcode => .refused .reservedOpcode

/-- One step. An idle engine waits for START; a running one takes the step of its phase; START while it runs has no
move (rules R26, R27). -/
def step (s : State) : Host.Outcome State Fault Refusal :=
  if s.pc = .idle then
    if s.start then runCurrent s else .next s
  else if s.start then .refused .startWhileBusy
  else runCurrent s

/-- `s` with the table word's descriptor on the host port and START asserted, the engine idle: the next step runs it
(notes/assumptions/18.md). -/
def State.withFetchWord (s : State) (nbits w : Nat) : State :=
  placeDescriptor (tableDescriptor nbits w) s

end Sys2Proof.Machine
end

