-- ==== Sys2Proof/Safety.lean ====
section
/-! DEFINITION. What claims about the machine speak of: groups of operations, the phases and results an operation has,
consistency of the engine's state, legality of its event history, and runs of steps, operations and programs. -/

namespace Sys2Proof.Machine

/-! ### Groups of operations -/

/-- The operations that end in `DEC_R1` (rules R83, R204). -/
def shortStatusOps (q : Word) : List Instr :=
  [.app q, .selDesel q, .blockLength q, .writeSingleBlock q, .writeMultiBlock q, .readSingleBlock q, .readMultiBlock q,
   .stopTransfer q]

/-- The operations that end in `DEC_R2` (rules R83, R204). -/
def longIdOps (q : Word) : List Instr :=
  [.sendCid q, .sendCsd q]

/-- The operations that check the echoed index and read a status: `DEC_R1` and `DEC_R6` (rule R83). -/
def statusOps (q : Word) : List Instr :=
  .setRelAdd q :: shortStatusOps q

/-- The operations whose decoder uses `WAIT_CRC` whatever the parameters are (rules R83, R130). -/
def crcOps (q : Word) : List Instr :=
  longIdOps q ++ statusOps q

/-- The operations that wait for a response (rule R83). -/
def responseOps (q : Word) : List Instr :=
  [.appOper q, .operCond q] ++ crcOps q

/-- The operations that issue a command: all but `CLRF` (rule R170). -/
def commandOps (q : Word) : List Instr :=
  .idle q :: responseOps q

/-- Every operation (rule R76). -/
def everyOp (q : Word) : List Instr :=
  .clrf q :: commandOps q

/-! ### Phases and results -/

/-- Whether a decoder goes through a phase (rule R27). -/
def Decoder.hasPhase (d : Decoder) : Phase → Bool
  | .idle => true
  | .arg => true
  | .cmd => true
  | .t0 => true
  | .poll => true
  | .clrt => d.waitsForResponse
  | .crc => d.checksCrc
  | .clrc => d.checksCrc
  | .echo => d.readsStatus
  | .clrf => d.waitsForResponse
  | .resp => d.readsStatus

/-- Whether an operation goes through a phase (rule R27). -/
def operationHasPhase (c : Config) (o : Op) (p : Phase) : Bool :=
  match catalog c o with
  | some e => e.decoder.hasPhase p
  | none => p == .idle || p == .clrf

/-- The phases after the CMD write, in which `L_IDX` holds the index issued (rule R101). -/
def Phase.afterCommand : Phase → Bool
  | .idle => false
  | .arg => false
  | .cmd => false
  | .t0 => true
  | .poll => true
  | .clrt => true
  | .crc => true
  | .clrc => true
  | .echo => true
  | .clrf => true
  | .resp => true

/-- The codes of `CardError` 0 to 16 (rules R92, R204). -/
def cardStatusCodes (c : Config) : List (BitVec 8) :=
  (List.range 16).map (fun k => c.rc.cardBase + BitVec.ofNat 8 k) ++ [c.rc.cardUnspecified]

/-- The results of an operation that waits for a response and looks at nothing else (rule R204). -/
def waitResults (c : Config) : List (BitVec 8) :=
  [c.rc.ok, c.rc.timeout, c.rc.cmdRespTimeout]

/-- The results of an operation that also checks the CRC (rule R204). -/
def crcResults (c : Config) : List (BitVec 8) :=
  c.rc.cmdCrcFailed :: waitResults c

/-- The results a short-status operation can end with (rule R204). -/
def shortStatusResults (c : Config) : List (BitVec 8) :=
  crcResults c ++ cardStatusCodes c

/-- The results an operation can end with (rule R204). -/
def allowedResults (c : Config) : Op → List (BitVec 8)
  | .idle => [c.rc.ok, c.rc.timeout]
  | .app => shortStatusResults c
  | .appOper => waitResults c
  | .operCond =>
    match c.operCondDecoder with
    | .noPayload => waitResults c
    | .longId => crcResults c
  | .sendCid => crcResults c
  | .setRelAdd => crcResults c ++ [c.rc.r6ComCrcFailed, c.rc.r6IllegalCmd, c.rc.r6GeneralUnknownError]
  | .sendCsd => crcResults c
  | .selDesel => shortStatusResults c
  | .blockLength => shortStatusResults c
  | .writeSingleBlock => shortStatusResults c
  | .writeMultiBlock => shortStatusResults c
  | .readSingleBlock => shortStatusResults c
  | .readMultiBlock => shortStatusResults c
  | .stopTransfer => shortStatusResults c
  | .clrf => [c.rc.ok]

/-! ### Consistency of the engine -/

/-- BUSY says whether an operation is on, and START is asserted at an idle engine alone (rules R21, R26). -/
def PortConsistent (s : State) : Prop :=
  (s.busy = true ↔ s.pc ≠ .idle) ∧ (s.start = true → s.pc = .idle)

/-- A running engine runs the operation of `L_OP`, is in a phase of it, and after the CMD write holds its index in
`L_IDX` (rules R24, R27, R101). -/
def PhaseConsistent (s : State) : Prop :=
  s.pc ≠ .idle → ∃ o, Op.ofCode s.cfg s.lOp = some o ∧ operationHasPhase s.cfg o s.pc = true ∧
    ∀ e, catalog s.cfg o = some e → s.pc.afterCommand = true → s.lIdx = e.idx

/-- The last sample is what led to `PH_CLRT` or `PH_CRC`: before the deadline, with the flag or flags that the wait asks
for (rules R112, R114). -/
def SampleConsistent (s : State) : Prop :=
  (s.pc = .clrt → s.lT < s.lDeadline ∧ flagSet s.cfg .ctimeout s.lS = true) ∧
  (s.pc = .crc → s.lT < s.lDeadline ∧ flagSet s.cfg .ctimeout s.lS = false ∧
    (flagSet s.cfg .ccrcfail s.lS = true ∨ flagSet s.cfg .cmdrend s.lS = true))

/-- A written `x[RESULT]` holds `RC_OK` or the code of an error: "All other codes are never produced" (rule R92). -/
def ResultLegal (s : State) : Prop :=
  s.resultValid = true → s.result = s.cfg.rc.ok ∨ ∃ e : EngineError, s.result = e.code s.cfg

/-- The engine's state is consistent. -/
def Consistent (s : State) : Prop :=
  PortConsistent s ∧ PhaseConsistent s ∧ SampleConsistent s ∧ ResultLegal s

/-! ### Legality of the event history (newest first) -/

/-- Whether the newest event is a write of ARG. -/
def endsWithArgument : List Event → Bool
  | .write .arg _ :: _ => true
  | _ => false

/-- Every CMD write comes directly after an ARG write (rules R68, R101). -/
def commandsFollowArguments : List Event → Bool
  | [] => true
  | .write .cmd _ :: older => endsWithArgument older && commandsFollowArguments older
  | _ :: older => commandsFollowArguments older

/-- A CMD word that the catalog produces: `cpsmen = 1`, `waitint = 0`, one of the fourteen pairs of index and mode
(rules R89, R170, R171). -/
def CatalogWord (c : Config) (w : Word) : Prop :=
  ∃ o e, catalog c o = some e ∧ w = cmdWord c e.idx e.mode false true

/-- The three values the engine writes to ICR (rule R36). -/
def ClearWord (c : Config) (w : Word) : Prop :=
  w = staticMask c ∨ w = icrMask c .ctimeout ∨ w = icrMask c .ccrcfail

/-- What the engine has written so far is what it may write: the order of ARG and CMD, CMD words of the catalog, the
three ICR masks. -/
def TraceLegal (s : State) : Prop :=
  commandsFollowArguments s.history = true ∧ (s.pc = .cmd → endsWithArgument s.history = true) ∧
  (∀ w, Event.write .cmd w ∈ s.history → CatalogWord s.cfg w) ∧
  (∀ w, Event.write .icr w ∈ s.history → ClearWord s.cfg w)

/-- The writes of a history, newest first: the engine's only output toward the controller (rule R73). -/
def writesOf : List Event → List (WriteReg × Word)
  | [] => []
  | .write r v :: older => (r, v) :: writesOf older
  | .read _ _ :: older => writesOf older
  | .tick _ :: older => writesOf older

/-! ### Runs -/

/-- The engine gets from one state to another in some number of steps. -/
inductive Reaches : State → State → Prop where
  | refl (s : State) : Reaches s s
  | step {s t u : State} (h : Machine.step s = .next t) (r : Reaches t u) : Reaches s u

/-- The host issues an operation and the engine runs it to its closing step (rules R26, R239). -/
def RunsOperation (i : Instr) (s t : State) : Prop :=
  ∃ u v, hostIssue i s = .next u ∧ Machine.step u = .next v ∧ v.busy = true ∧ Reaches v t ∧ t.busy = false ∧
    t.start = false

/-- The host runs a program, one operation after another (rules R93, R239). -/
inductive RunsProgram : List Instr → State → State → Prop where
  | done (s : State) : RunsProgram [] s s
  | line {i : Instr} {rest : List Instr} {s t u : State} (h : RunsOperation i s t) (r : RunsProgram rest t u) :
      RunsProgram (i :: rest) s u

/-- `n` steps of the machine, up to the first that is no next state. -/
def runSteps : Nat → State → Outcome
  | 0, s => .next s
  | n + 1, s =>
    match Machine.step s with
    | .next t => runSteps n t
    | .fault r => .fault r
    | .refused r => .refused r

/-- The machine is idle with an operation on the port and START asserted: what `hostIssue` leaves (rule R26). -/
def Issued (i : Instr) (s : State) : Prop :=
  s.pc = .idle ∧ s.busy = false ∧ s.start = true ∧ Op.ofCode s.cfg s.op = some i.op ∧ s.operand = i.operand

/-- The engine is running operation `i` in phase `p`. -/
def Running (i : Instr) (p : Phase) (s : State) : Prop :=
  s.pc = p ∧ s.start = false ∧ Op.ofCode s.cfg s.lOp = some i.op ∧ s.lOperand = i.operand

/-! ### Premises about the environment -/

/-- The environment after its next `n` acts. -/
def Environment.after : Nat → Environment → Environment
  | 0, e => e
  | n + 1, e => Environment.after n e.advance

/-- The fairness assumption about time: "the tick source eventually reaches every value" (rules R66, R246). It says
nothing of the controller, which "may never set any flag". -/
def TickSourceFair (e : Environment) : Prop :=
  ∀ n : Nat, ∃ k, n ≤ (e.after k).tickCount

/-- The tick source's count at which the deadline of the wait in progress is reached, the count not having passed it
since its last wrap (rules R111, R112). -/
def deadlineCount (s : State) : Nat :=
  s.env.tickCount - s.env.tickCount % 2 ^ 32 + s.lDeadline.toNat

/-- The launch premise of rule R234: "`MemRead(A_STA) & STATIC_MASK = 0` and no command outstanding" (premises (2) and
(3) of rule R237). -/
def LaunchPremise (s : State) : Prop :=
  s.ctrl.sta &&& staticStaMask s.cfg = 0#32 ∧ s.ctrl.outstanding = false

/-- The clean-entry premise of rule R237 for operation `i`, to be issued at `s`: (1) `BUSY = 0` and `PH_IDLE`; (2) all
ten static flags read 0 and (3) no command is outstanding; (4) at the first `TickRead`, which three acts precede,
`now + T` does not wrap. Premise (5), exclusive use of the port, needs no words: no one but the host moves the port in
this model. -/
def CleanEntry (i : Instr) (s : State) : Prop :=
  (s.busy = false ∧ s.pc = .idle) ∧ LaunchPremise s ∧
    ∀ e, catalog s.cfg i.op = some e →
      (s.env.after 3).tickCount % 2 ^ 32 + (entryTimeout s.cfg e i.operand).toNat < 2 ^ 32

/-- No act of a list sets a flag. -/
def NeverSets (c : Config) (f : StaticFlag) (acts : List EnvAct) : Prop :=
  ∀ a ∈ acts, flagSet c f a.set = false

/-- The clock of a response wait with one sample, when ARG, CMD, the deadline's tick, the sample's tick are read after
the acts `a1` to `a4`: the deadline does not wrap and the sample's tick lies before it (rules R111, R112, R237). -/
def SampleInTime (s : State) (timeout : Word) (a1 a2 a3 a4 : EnvAct) : Prop :=
  (s.env.tickCount + a1.ticks + a2.ticks + a3.ticks) % 2 ^ 32 + timeout.toNat < 2 ^ 32 ∧ a4.ticks < timeout.toNat

/-- A response arrives in time: the wait's first sample, read after the acts `a1` to `a5`, shows `CMDREND` and no
`CTIMEOUT`. -/
def ResponseInTime (s : State) (a1 a2 a3 a4 a5 : EnvAct) : Prop :=
  SampleInTime s s.cfg.tResp a1 a2 a3 a4 ∧ flagSet s.cfg .cmdrend a5.set = true ∧
  flagSet s.cfg .ctimeout s.ctrl.sta = false ∧ NeverSets s.cfg .ctimeout [a1, a2, a3, a4, a5]

/-- `CCRCFAIL` is clear at the start and none of the acts sets it. -/
def NoCrcFailure (s : State) (acts : List EnvAct) : Prop :=
  flagSet s.cfg .ccrcfail s.ctrl.sta = false ∧ NeverSets s.cfg .ccrcfail acts

/-- The place of a phase in the order in which an operation goes through them (rule R27). -/
def Phase.rank : Phase → Nat
  | .idle => 0
  | .arg => 1
  | .cmd => 2
  | .t0 => 3
  | .poll => 4
  | .clrt => 5
  | .crc => 6
  | .clrc => 7
  | .echo => 8
  | .clrf => 9
  | .resp => 10

end Sys2Proof.Machine
end

