-- ==== Sys2Proof/Certificates/Slice0/Obligations.lean ====
section
/-! DEFINITION. The statements for the provers. Every statement about a step is about all states, hence about every
configuration record, every environment script and every free act. -/

open Sys2Proof Sys2Proof.Machine

/-! ### Encoding -/

/-- R75, R76: opcode in D[35:32], operand in D[31:0], and the decoder reads back what the encoder wrote, with the opcode
numbers of any well-formed record. -/
def Obligations.DecodeReadsEncodedOperation : Prop :=
  ∀ (c : Config) (i : Instr), c.wellFormed = true →
    (encode c i).extractLsb' 32 4 = i.op.code c ∧ (encode c i).extractLsb' 0 32 = i.operand ∧
    decode c (encode c i) = .ok i

/-- R75 to R77, R91: a descriptor has one reading, and every descriptor that decodes is the encoding of its
operation. -/
def Obligations.EncodeRestoresDecodedDescriptor : Prop :=
  ∀ (c : Config) (d : BitVec 36) (i : Instr), decode c d = .ok i → encode c i = d

/-- R87, R88, R90: opcode 0xF is no operation, and nothing else is illegal, with the opcode numbers of any well-formed
record. -/
def Obligations.OnlyOpcodeFifteenIsReserved : Prop :=
  ∀ (c : Config) (v : BitVec 4) (q : Word), c.wellFormed = true →
    (v = 0xF#4 → decodePort c v q = .error .reservedOpcode) ∧
    (v ≠ 0xF#4 → ∃ i, decodePort c v q = .ok i ∧ i.op.code c = v ∧ i.operand = q)

/-- Descriptors of 95_test_vectors.md sections 3.5 and 3.7, one of each family, and the fifteen opcode
numbers of R76. -/
def Obligations.SampleDescriptorsDecode : Prop :=
  let read := decode hardwareConfig
  read 0x0000003E8#36 = .ok (.idle 1000#32) ∧ read 0x100010000#36 = .ok (.app 0x00010000#32) ∧
  read 0x240000000#36 = .ok (.appOper 0x40000000#32) ∧ read 0x3DEADBEEF#36 = .ok (.operCond 0xDEADBEEF#32) ∧
  read 0x60000B368#36 = .ok (.sendCsd 0xB368#32) ∧ read 0x900000800#36 = .ok (.writeSingleBlock 0x800#32) ∧
  read 0xD12345678#36 = .ok (.stopTransfer 0x12345678#32) ∧ read 0xE00000000#36 = .ok (.clrf 0#32) ∧
  read 0xF00000000#36 = .error .reservedOpcode ∧
  [Op.idle, .app, .appOper, .operCond, .sendCid, .setRelAdd, .sendCsd, .selDesel, .blockLength, .writeSingleBlock,
    .writeMultiBlock, .readSingleBlock, .readMultiBlock, .stopTransfer, .clrf].map (Op.code hardwareConfig)
  = [0x0#4, 0x1#4, 0x2#4, 0x3#4, 0x4#4, 0x5#4, 0x6#4, 0x7#4, 0x8#4, 0x9#4, 0xA#4, 0xB#4, 0xC#4, 0xD#4, 0xE#4]

/-- R93: what a program line stands for; an operation that uses its operand has no line without one. -/
def Obligations.ProgramLineAssembles : Prop :=
  ∀ o : Op,
    (o.format = .none → assemble { op := o, operand := none } = some (o.withOperand 0#32)) ∧
    (o.format ≠ .none → assemble { op := o, operand := none } = none) ∧
    ∀ n : Nat, (n < 2 ^ 32 → assemble { op := o, operand := some n } = some (o.withOperand (BitVec.ofNat 32 n))) ∧
      (2 ^ 32 ≤ n → assemble { op := o, operand := some n } = none)

/-- R79: the fields of a command word read back as they were put in, every bit outside them is 0 (in any well-formed
layout), and the formula of the default layout. -/
def Obligations.CommandWordHoldsItsFields : Prop :=
  ∀ (c : Config) (idx : BitVec 6) (m : WaitMode) (waitInt cpsmEn : Bool), c.wellFormed = true →
    cmdIndexField c (cmdWord c idx m waitInt cpsmEn) = idx ∧
    waitRespField c (cmdWord c idx m waitInt cpsmEn) = waitRespCode c m ∧
    waitIntField c (cmdWord c idx m waitInt cpsmEn) = waitInt ∧
    cpsmEnField c (cmdWord c idx m waitInt cpsmEn) = cpsmEn ∧
    (∀ n : Nat, (n < c.layout.cmd.cmdIndex ∨ c.layout.cmd.cmdIndex + 6 ≤ n) →
      (n < c.layout.cmd.waitResp ∨ c.layout.cmd.waitResp + 2 ≤ n) → n ≠ c.layout.cmd.waitInt →
      n ≠ c.layout.cmd.cpsmEn → (cmdWord c idx m waitInt cpsmEn).getLsbD n = false) ∧
    let code : Word := match m with | .none => 0b00#32 | .short => 0b01#32 | .long => 0b11#32
    cmdWord hardwareConfig idx m waitInt cpsmEn =
      idx.setWidth 32 ||| code <<< 6 ||| (BitVec.ofBool waitInt).setWidth 32 <<< 8
        ||| (BitVec.ofBool cpsmEn).setWidth 32 <<< 10

/-! ### One step -/

/-- A step runs the decoded operation: the host port's where the engine is idle and START is asserted, the latched one
while it runs; it is `exec` of that operation at the same state. -/
def Obligations.StepRunsTheDecodedOperation : Prop :=
  ∀ (s : State) (i : Instr),
    (s.pc = .idle → s.start = true → decode s.cfg (s.op ++ s.operand) = .ok i → step s = exec i s) ∧
    (s.pc ≠ .idle → s.start = false → decode s.cfg (s.lOp ++ s.lOperand) = .ok i → step s = exec i s)

/-- R26, R87, R27: an idle engine waits for START; START of an opcode with no operation, 0xF in a well-formed record,
and START while an operation runs have no move. That the wait is a step to the same state is log entry 17. -/
def Obligations.StepWaitsOrRefusesWithoutLegalStart : Prop :=
  ∀ s : State,
    (s.pc = .idle → s.start = false → step s = .next s) ∧
    (s.pc = .idle → s.start = true → (Op.ofCode s.cfg s.op = none ∨ (s.cfg.wellFormed = true ∧ s.op = 0xF#4)) →
      step s = .refused .reservedOpcode) ∧
    (s.pc ≠ .idle → s.start = true → step s = .refused .startWhileBusy)

/-! ### The phases, operation by operation -/

/-- R26: START latches the descriptor, sets BUSY and the first phase, in one step, and changes nothing else; with
`BUSY = 1` there is no move. -/
def Obligations.StartLatchesTheDescriptor : Prop :=
  ∀ (s : State) (q : Word) (i : Instr), i ∈ everyOp q → s.pc = .idle →
    (s.busy = false → exec i s = .next { s with
      lOp := i.op.code s.cfg, lOperand := q, busy := true, start := false,
      pc := if i = .clrf q then .clrf else .arg }) ∧
    (s.busy = true → exec i s = .refused .startWhileBusy)

/-- R80 to R82, R171: the value each operation writes to ARG, in its phase `PH_ARG`. -/
def Obligations.ArgumentPhaseWritesBuiltArgument : Prop :=
  ∀ (s : State) (q : Word) (i : Instr) (a : Word),
    (i, a) ∈ [(Instr.idle q, 0x00000000#32), (.app q, q), (.appOper q, 0x80100000#32 ||| q),
      (.operCond q, 0x000001AA#32), (.sendCid q, 0x00000000#32), (.setRelAdd q, 0x00000000#32), (.sendCsd q, q <<< 16),
      (.selDesel q, q <<< 16), (.blockLength q, q), (.writeSingleBlock q, q), (.writeMultiBlock q, q),
      (.readSingleBlock q, q), (.readMultiBlock q, q), (.stopTransfer q, 0x00000000#32)] →
    s.pc = .arg → exec i s = .next { memWrite .arg a s with pc := .cmd }

/-- R81: `ARG_RCA` puts the low half of the operand into ARG[31:16] and zeros below; the operand's upper half is lost. -/
def Obligations.RcaArgumentIsTheShiftedLowHalf : Prop :=
  ∀ (s t : State) (q : Word) (i : Instr), i ∈ [Instr.sendCsd q, .selDesel q] → s.pc = .arg → exec i s = .next t →
    t.ctrl.arg.extractLsb' 16 16 = q.extractLsb' 0 16 ∧ t.ctrl.arg.extractLsb' 0 16 = 0#16

/-- R101, R170, R171: the CMD word of each operation, in its phase `PH_CMD`, with `cpsmen = 1` and `waitint = 0`, and
`L_IDX`. -/
def Obligations.CommandPhaseWritesCatalogWord : Prop :=
  ∀ (s : State) (q : Word) (i : Instr) (idx : BitVec 6) (m : WaitMode),
    (i, idx, m) ∈ [(Instr.idle q, s.cfg.catIndex.idle, WaitMode.none), (.app q, s.cfg.catIndex.app, .short),
      (.appOper q, s.cfg.catIndex.appOper, if s.cfg.acmd41WaitResp = .short then .short else .long),
      (.operCond q, s.cfg.catIndex.operCond, .short), (.sendCid q, s.cfg.catIndex.sendCid, .long),
      (.setRelAdd q, s.cfg.catIndex.setRelAdd, .short), (.sendCsd q, s.cfg.catIndex.sendCsd, .long),
      (.selDesel q, s.cfg.catIndex.selDesel, .short), (.blockLength q, s.cfg.catIndex.blockLength, .short),
      (.writeSingleBlock q, s.cfg.catIndex.writeSingleBlock, .short),
      (.writeMultiBlock q, s.cfg.catIndex.writeMultiBlock, .short),
      (.readSingleBlock q, s.cfg.catIndex.readSingleBlock, .short),
      (.readMultiBlock q, s.cfg.catIndex.readMultiBlock, .short),
      (.stopTransfer q, s.cfg.catIndex.stopTransfer, .short)] →
    s.pc = .cmd →
    exec i s = .next { memWrite .cmd (cmdWord s.cfg idx m false true) s with lIdx := idx, pc := .t0 }

/-- R68, R101, R103: DISPATCH is two steps, ARG then CMD, and reads nothing. -/
def Obligations.DispatchWritesArgumentThenCommand : Prop :=
  ∀ (s : State) (q : Word) (i : Instr), i ∈ commandOps q → Running i .arg s →
    ∃ t a w, runSteps 2 s = .next t ∧ t.history = .write .cmd w :: .write .arg a :: s.history ∧ t.ctrl.arg = a ∧
      t.ctrl.cmd = w ∧ t.pc = .t0

/-- R110, R111: at the entry of a wait one `TickRead` gives `now`, and the deadline is `now + T` modulo 2^32; no other
step changes it. T is the operand of `IDLE` and `T_RESP`, 5000 on this hardware, for the others. -/
def Obligations.DeadlineIsCapturedOnce : Prop :=
  (∀ (s : State) (q : Word) (i : Instr), i ∈ commandOps q →
    (s.pc = .t0 → exec i s = .next { environmentActs s with
      lDeadline := BitVec.ofNat 32 (environmentActs s).env.tickCount + (if i = .idle q then q else s.cfg.tResp),
      history := .tick (BitVec.ofNat 32 (environmentActs s).env.tickCount) :: s.history, pc := .poll }) ∧
    ∀ t : State, s.pc ≠ .t0 → exec i s = .next t → t.lDeadline = s.lDeadline) ∧
  hardwareConfig.tResp = 5000#32

/-- R112, D10: a sample reads the tick first, then STA, each after an act of the environment, and latches both. -/
def Obligations.SampleReadsTickThenStatus : Prop :=
  ∀ s : State,
    (takeSample s).lT = BitVec.ofNat 32 (s.env.tickCount + s.env.nextAct.ticks) ∧
    (takeSample s).lS = (environmentActs (environmentActs s)).ctrl.sta ∧
    (takeSample s).history = .read .sta (takeSample s).lS :: .tick (takeSample s).lT :: s.history ∧
    (takeSample s).ctrl = (environmentActs (environmentActs s)).ctrl

/-- R114: the outcome of a response wait's sample. The deadline beats every flag, the hardware timeout beats a response
or CRC flag and is followed by its one ICR write, and with no terminal flag the loop goes on. That an operation ends in
the step of its last access is log entry 2 (DEDUCED). -/
def Obligations.ResponsePollFollowsPrecedence : Prop :=
  ∀ (s : State) (q : Word) (i : Instr), i ∈ responseOps q → s.pc = .poll →
    let m := takeSample s
    (m.lDeadline ≤ m.lT →
      exec i s = .next { m with result := s.cfg.rc.timeout, resultValid := true, busy := false, pc := .idle }) ∧
    (m.lT < m.lDeadline → flagSet s.cfg .ctimeout m.lS = true →
      exec i s = .next { m with pc := .clrt } ∧
      exec i { m with pc := .clrt } = .next { memWrite .icr (icrMask s.cfg .ctimeout) m with
        result := s.cfg.rc.cmdRespTimeout, resultValid := true, busy := false, pc := .idle }) ∧
    (m.lT < m.lDeadline → flagSet s.cfg .ctimeout m.lS = false →
      (flagSet s.cfg .ccrcfail m.lS = true ∨ flagSet s.cfg .cmdrend m.lS = true) →
      exec i s = .next { m with
        pc := if i ∈ crcOps q ∨ (i = .operCond q ∧ s.cfg.operCondDecoder = .longId) then .crc else .clrf }) ∧
    (m.lT < m.lDeadline → flagSet s.cfg .ctimeout m.lS = false → flagSet s.cfg .ccrcfail m.lS = false →
      flagSet s.cfg .cmdrend m.lS = false → exec i s = .next { m with pc := .poll })

/-- R118, R172: the idle wait tests the deadline, then `CMDSENT`, and nothing else; success ends the operation with
`RC_OK` and no ICR write. That it ends in the sample's own step is log entry 2 (DEDUCED). -/
def Obligations.IdlePollEndsOnCommandSent : Prop :=
  ∀ (s : State) (q : Word), s.pc = .poll →
    let m := takeSample s
    (m.lDeadline ≤ m.lT → exec (.idle q) s =
      .next { m with result := s.cfg.rc.timeout, resultValid := true, busy := false, pc := .idle }) ∧
    (m.lT < m.lDeadline → flagSet s.cfg .cmdsent m.lS = true → exec (.idle q) s =
      .next { m with result := s.cfg.rc.ok, resultValid := true, busy := false, pc := .idle }) ∧
    (m.lT < m.lDeadline → flagSet s.cfg .cmdsent m.lS = false → exec (.idle q) s = .next { m with pc := .poll })

/-- R113: the hardware-timeout exit writes the one clear bit and ends with `CmdRespTimeout`; in a well-formed layout
`CTIMEOUT` is clear afterwards and every other static flag as it was. That it ends in the step of the ICR write is log
entry 2 (DEDUCED). -/
def Obligations.HardwareTimeoutExitClearsOneFlag : Prop :=
  ∀ (s : State) (q : Word) (i : Instr), i ∈ responseOps q → s.pc = .clrt →
    ∃ t, exec i s = .next t ∧
      t = { memWrite .icr (icrMask s.cfg .ctimeout) s with
        result := s.cfg.rc.cmdRespTimeout, resultValid := true, busy := false, pc := .idle } ∧
      (s.cfg.wellFormed = true → ∀ f : StaticFlag, flagSet s.cfg f t.ctrl.sta =
        (if f = .ctimeout then false else flagSet s.cfg f (environmentActs s).ctrl.sta))

/-- R115: after the wait a fresh read of STA, of which only `CCRCFAIL` is tested; `OPER_COND` does so only with
`P_OPER_COND_DECODER = LONGID`. -/
def Obligations.CrcInspectionReadsStatusAfresh : Prop :=
  ∀ (s : State) (q : Word) (i : Instr), (i ∈ crcOps q ∨ (i = .operCond q ∧ s.cfg.operCondDecoder = .longId)) →
    s.pc = .crc →
    let v := (environmentActs s).ctrl.sta
    let m := { environmentActs s with history := .read .sta v :: s.history }
    (flagSet s.cfg .ccrcfail v = true → exec i s = .next { m with pc := .clrc }) ∧
    (flagSet s.cfg .ccrcfail v = false → i ∈ statusOps q → exec i s = .next { m with pc := .echo }) ∧
    (flagSet s.cfg .ccrcfail v = false → i ∉ statusOps q → exec i s = .next { m with pc := .clrf })

/-- R115: the CRC exit writes the one clear bit and ends with `CmdCrcFailed`; in a well-formed layout `CCRCFAIL` is
clear afterwards and every other static flag as it was. That it ends in the step of the ICR write is log entry 2
(DEDUCED). -/
def Obligations.CrcFailureExitClearsOneFlag : Prop :=
  ∀ (s : State) (q : Word) (i : Instr), (i ∈ crcOps q ∨ (i = .operCond q ∧ s.cfg.operCondDecoder = .longId)) →
    s.pc = .clrc →
    ∃ t, exec i s = .next t ∧
      t = { memWrite .icr (icrMask s.cfg .ccrcfail) s with
        result := s.cfg.rc.cmdCrcFailed, resultValid := true, busy := false, pc := .idle } ∧
      (s.cfg.wellFormed = true → ∀ f : StaticFlag, flagSet s.cfg f t.ctrl.sta =
        (if f = .ccrcfail then false else flagSet s.cfg f (environmentActs s).ctrl.sta))

/-- R132: the echoed index against `L_IDX`: a match goes on, a mismatch ends with `CmdCrcFailed` and no ICR write.
That it ends in the step of the read is log entry 2 (DEDUCED). -/
def Obligations.EchoCheckComparesTheFieldAlone : Prop :=
  ∀ (s : State) (q : Word) (i : Instr), i ∈ statusOps q → s.pc = .echo →
    let v := (environmentActs s).ctrl.respCmd
    let m := { environmentActs s with history := .read .respCmd v :: s.history }
    (v.extractLsb' s.cfg.layout.respCmd 6 = s.lIdx → exec i s = .next { m with pc := .clrf }) ∧
    (v.extractLsb' s.cfg.layout.respCmd 6 ≠ s.lIdx → exec i s =
      .next { m with result := s.cfg.rc.cmdCrcFailed, resultValid := true, busy := false, pc := .idle })

/-- R131, R134 to R136, R175: the decoders' `CLRF`: one write of `STATIC_MASK`; `DEC_R2` and `DEC_R3` end there with
`RC_OK`, `DEC_R1` and `DEC_R6` go on to the status. That an operation ends in the step of the write
is log entry 2 (DEDUCED). -/
def Obligations.DecoderClearsFlagsThenEndsOrReadsStatus : Prop :=
  ∀ (s : State) (q : Word) (i : Instr), s.pc = .clrf →
    (i ∈ [Instr.appOper q, .operCond q, .sendCid q, .sendCsd q] → exec i s =
      .next { memWrite .icr (staticMask s.cfg) s with
        result := s.cfg.rc.ok, resultValid := true, busy := false, pc := .idle }) ∧
    (i ∈ statusOps q → exec i s = .next { memWrite .icr (staticMask s.cfg) s with pc := .resp })

/-- R131, R133: `DEC_R1` reads RESP1 once, latches it, and ends with `RC_OK` or the classifier's error. That it ends
in the step of the read is log entry 2 (DEDUCED). The two multi-block operations rest on unvalidated behaviour: R245, log
entry 26. -/
def Obligations.ShortStatusIsReadAndClassified : Prop :=
  ∀ (s : State) (q : Word) (i : Instr), i ∈ shortStatusOps q → s.pc = .resp →
    let v := (environmentActs s).ctrl.resp1
    exec i s = .next { environmentActs s with
      lCs := v, history := .read .resp1 v :: s.history,
      result := (match classify s.cfg v with | none => s.cfg.rc.ok | some e => e.code s.cfg),
      resultValid := true, busy := false, pc := .idle }

/-- R136, R138, R23: `SET_REL_ADD` ends with the RCA, the upper half-word, or with an R6 error and `x[RCA]` as it
was. That it ends in the step of the RESP1 read is log entry 2 (DEDUCED). -/
def Obligations.RelativeAddressIsDeliveredOrAnErrorRaised : Prop :=
  ∀ (s : State) (q : Word), s.pc = .resp →
    let v := (environmentActs s).ctrl.resp1
    let m := { environmentActs s with
      lCs := v, history := .read .resp1 v :: s.history, resultValid := true, busy := false, pc := .idle }
    (v &&& s.cfg.r6Mask.comCrcFailed ≠ 0#32 →
      exec (.setRelAdd q) s = .next { m with result := s.cfg.rc.r6ComCrcFailed }) ∧
    (v &&& s.cfg.r6Mask.comCrcFailed = 0#32 → v &&& s.cfg.r6Mask.illegalCmd ≠ 0#32 →
      exec (.setRelAdd q) s = .next { m with result := s.cfg.rc.r6IllegalCmd }) ∧
    (v &&& s.cfg.r6Mask.comCrcFailed = 0#32 → v &&& s.cfg.r6Mask.illegalCmd = 0#32 →
      v &&& s.cfg.r6Mask.generalUnknownError ≠ 0#32 →
      exec (.setRelAdd q) s = .next { m with result := s.cfg.rc.r6GeneralUnknownError }) ∧
    (v &&& s.cfg.r6Mask.comCrcFailed = 0#32 → v &&& s.cfg.r6Mask.illegalCmd = 0#32 →
      v &&& s.cfg.r6Mask.generalUnknownError = 0#32 → exec (.setRelAdd q) s =
        .next { m with result := s.cfg.rc.ok, rca := v.extractLsb' 16 16, rcaValid := true })

/-- R186: `CLRF` writes `STATIC_MASK` to ICR and ends with `RC_OK`; no command, no wait, no tick. That it ends in the
step of the write is log entry 2 (DEDUCED). -/
def Obligations.ClearFlagsOperationEndsOk : Prop :=
  ∀ (s : State) (q : Word), s.pc = .clrf →
    exec (.clrf q) s = .next { memWrite .icr (staticMask s.cfg) s with
      result := s.cfg.rc.ok, resultValid := true, busy := false, pc := .idle }

/-! ### Whole operations -/

/-- R170, R131: a short-status operation whose response arrives in time, with a good CRC and echo: nine steps from START
to the closing step, three writes, and the classified status as the result. The nine steps have the closing step as part
of the RESP1 read's: log entry 2 (DEDUCED). The two multi-block operations rest on unvalidated behaviour: R245, log entry
26. -/
def Obligations.ShortStatusOperationRunsToItsResult : Prop :=
  ∀ (s : State) (q : Word) (i : Instr) (arg : Word) (idx : BitVec 6) (a1 a2 a3 a4 a5 a6 a7 a8 a9 : EnvAct)
    (rest : List EnvAct) (echo cs : Word),
    (i, arg, idx) ∈ [(Instr.app q, q, s.cfg.catIndex.app), (.selDesel q, q <<< 16, s.cfg.catIndex.selDesel),
      (.blockLength q, q, s.cfg.catIndex.blockLength), (.writeSingleBlock q, q, s.cfg.catIndex.writeSingleBlock),
      (.writeMultiBlock q, q, s.cfg.catIndex.writeMultiBlock), (.readSingleBlock q, q, s.cfg.catIndex.readSingleBlock),
      (.readMultiBlock q, q, s.cfg.catIndex.readMultiBlock), (.stopTransfer q, 0#32, s.cfg.catIndex.stopTransfer)] →
    Issued i s → s.env.script = a1 :: a2 :: a3 :: a4 :: a5 :: a6 :: a7 :: a8 :: a9 :: rest →
    ResponseInTime s a1 a2 a3 a4 a5 → NoCrcFailure s [a1, a2, a3, a4, a5, a6] →
    a7.respCmd = some echo → echoedIndex s.cfg echo = idx → a9.resp1 = some cs →
    ∃ t, runSteps 9 s = .next t ∧ t.pc = .idle ∧ t.busy = false ∧ t.resultValid = true ∧
      t.result = (match classify s.cfg cs with | none => s.cfg.rc.ok | some e => e.code s.cfg) ∧ t.rca = s.rca ∧
      writesOf t.history = (.icr, staticMask s.cfg) :: (.cmd, cmdWord s.cfg idx .short false true) :: (.arg, arg) ::
        writesOf s.history

/-- R132, DOC0's property S1: in the same run an echo that differs ends with `CmdCrcFailed`, whatever RESP1 holds, and
nothing is written to ICR.
The count of steps has the closing step as part of the last access's: log entry 2 (DEDUCED). -/
def Obligations.EchoMismatchFailsTheOperation : Prop :=
  ∀ (s : State) (q : Word) (i : Instr) (a1 a2 a3 a4 a5 a6 a7 : EnvAct) (rest : List EnvAct) (echo : Word)
    (e : CatalogEntry),
    i ∈ statusOps q → Issued i s → s.env.script = a1 :: a2 :: a3 :: a4 :: a5 :: a6 :: a7 :: rest →
    ResponseInTime s a1 a2 a3 a4 a5 → NoCrcFailure s [a1, a2, a3, a4, a5, a6] →
    a7.respCmd = some echo → catalog s.cfg i.op = some e → echoedIndex s.cfg echo ≠ e.idx →
    ∃ t a w, runSteps 7 s = .next t ∧ t.pc = .idle ∧ t.busy = false ∧ t.result = s.cfg.rc.cmdCrcFailed ∧
      t.resultValid = true ∧ t.rca = s.rca ∧ writesOf t.history = (.cmd, w) :: (.arg, a) :: writesOf s.history

/-- R177, R136, R138: `SET_REL_ADD` with a status that has no disqualifying bit delivers the upper half-word.
The count of steps has the closing step as part of the last access's: log entry 2 (DEDUCED). -/
def Obligations.SetRelAddDeliversTheAddress : Prop :=
  ∀ (s : State) (q : Word) (a1 a2 a3 a4 a5 a6 a7 a8 a9 : EnvAct) (rest : List EnvAct) (echo cs : Word),
    Issued (.setRelAdd q) s → s.env.script = a1 :: a2 :: a3 :: a4 :: a5 :: a6 :: a7 :: a8 :: a9 :: rest →
    ResponseInTime s a1 a2 a3 a4 a5 → NoCrcFailure s [a1, a2, a3, a4, a5, a6] →
    a7.respCmd = some echo → echoedIndex s.cfg echo = s.cfg.catIndex.setRelAdd → a9.resp1 = some cs →
    cs &&& s.cfg.r6Mask.comCrcFailed = 0#32 → cs &&& s.cfg.r6Mask.illegalCmd = 0#32 →
    cs &&& s.cfg.r6Mask.generalUnknownError = 0#32 →
    ∃ t, runSteps 9 s = .next t ∧ t.pc = .idle ∧ t.busy = false ∧ t.result = s.cfg.rc.ok ∧ t.resultValid = true ∧
      t.rca = cs.extractLsb' 16 16 ∧ t.rcaValid = true ∧
      writesOf t.history = (.icr, staticMask s.cfg) ::
        (.cmd, cmdWord s.cfg s.cfg.catIndex.setRelAdd .short false true) :: (.arg, 0#32) :: writesOf s.history

/-- R134, R176, R178: a long-ID operation: seven steps, no echo check, no status.
The count of steps has the closing step as part of the last access's: log entry 2 (DEDUCED). -/
def Obligations.LongIdOperationRunsToOk : Prop :=
  ∀ (s : State) (q : Word) (i : Instr) (arg : Word) (idx : BitVec 6) (a1 a2 a3 a4 a5 a6 a7 : EnvAct)
    (rest : List EnvAct),
    (i, arg, idx) ∈ [(Instr.sendCid q, 0#32, s.cfg.catIndex.sendCid), (.sendCsd q, q <<< 16, s.cfg.catIndex.sendCsd)] →
    Issued i s → s.env.script = a1 :: a2 :: a3 :: a4 :: a5 :: a6 :: a7 :: rest →
    ResponseInTime s a1 a2 a3 a4 a5 → NoCrcFailure s [a1, a2, a3, a4, a5, a6] →
    ∃ t, runSteps 7 s = .next t ∧ t.pc = .idle ∧ t.busy = false ∧ t.result = s.cfg.rc.ok ∧ t.resultValid = true ∧
      t.rca = s.rca ∧ t.lCs = s.lCs ∧
      writesOf t.history = (.icr, staticMask s.cfg) :: (.cmd, cmdWord s.cfg idx .long false true) :: (.arg, arg) ::
        writesOf s.history

/-- R135, R174: `APP_OPER`: six steps, no CRC check, no echo check, no status.
The count of steps has the closing step as part of the last access's: log entry 2 (DEDUCED). -/
def Obligations.AppOperRunsToOk : Prop :=
  ∀ (s : State) (q : Word) (a1 a2 a3 a4 a5 a6 : EnvAct) (rest : List EnvAct),
    Issued (.appOper q) s → s.env.script = a1 :: a2 :: a3 :: a4 :: a5 :: a6 :: rest →
    ResponseInTime s a1 a2 a3 a4 a5 →
    ∃ t m, runSteps 6 s = .next t ∧ t.pc = .idle ∧ t.busy = false ∧ t.result = s.cfg.rc.ok ∧ t.resultValid = true ∧
      t.rca = s.rca ∧ (s.cfg.acmd41WaitResp = .short → m = .short) ∧ (s.cfg.acmd41WaitResp = .long → m = .long) ∧
      writesOf t.history = (.icr, staticMask s.cfg) ::
        (.cmd, cmdWord s.cfg s.cfg.catIndex.appOper m false true) :: (.arg, 0x80100000#32 ||| q) :: writesOf s.history

/-- R175: what `OPER_COND` makes of a response with `CCRCFAIL`: `RC_OK` with `P_OPER_COND_DECODER = NOPAYLOAD`, and
`CmdCrcFailed` with LONGID.
The count of steps has the closing step as part of the last access's: log entry 2 (DEDUCED). -/
def Obligations.OperCondDecoderDecidesOnCrcFailure : Prop :=
  ∀ (s : State) (q : Word) (a1 a2 a3 a4 a5 a6 a7 : EnvAct) (rest : List EnvAct),
    Issued (.operCond q) s → s.env.script = a1 :: a2 :: a3 :: a4 :: a5 :: a6 :: a7 :: rest →
    ResponseInTime s a1 a2 a3 a4 a5 → flagSet s.cfg .ccrcfail a5.set = true →
    (s.cfg.operCondDecoder = .noPayload → ∃ t, runSteps 6 s = .next t ∧ t.busy = false ∧ t.result = s.cfg.rc.ok ∧
      writesOf t.history = (.icr, staticMask s.cfg) ::
        (.cmd, cmdWord s.cfg s.cfg.catIndex.operCond .short false true) :: (.arg, 0x1AA#32) :: writesOf s.history) ∧
    (s.cfg.operCondDecoder = .longId → ∃ t, runSteps 7 s = .next t ∧ t.busy = false ∧ t.result = s.cfg.rc.cmdCrcFailed ∧
      writesOf t.history = (.icr, icrMask s.cfg .ccrcfail) ::
        (.cmd, cmdWord s.cfg s.cfg.catIndex.operCond .short false true) :: (.arg, 0x1AA#32) :: writesOf s.history)

/-- R172, DOC0's idle property S4: `CMDSENT` seen at `now + k` with `k < q` succeeds with no ICR write; a sample at
`now + k` with `k ≥ q` is a Timeout whatever STA shows.
The count of steps has the closing step as part of the last access's: log entry 2 (DEDUCED). -/
def Obligations.IdleOperationSucceedsBeforeTheDeadline : Prop :=
  ∀ (s : State) (q : Word) (a1 a2 a3 a4 a5 : EnvAct) (rest : List EnvAct),
    Issued (.idle q) s → s.env.script = a1 :: a2 :: a3 :: a4 :: a5 :: rest →
    let now := (s.env.tickCount + a1.ticks + a2.ticks + a3.ticks) % 2 ^ 32
    (SampleInTime s q a1 a2 a3 a4 → flagSet s.cfg .cmdsent a5.set = true →
      ∃ t, runSteps 5 s = .next t ∧ t.busy = false ∧ t.result = s.cfg.rc.ok ∧ t.resultValid = true ∧
        writesOf t.history = (.cmd, cmdWord s.cfg s.cfg.catIndex.idle .none false true) :: (.arg, 0#32) ::
          writesOf s.history) ∧
    (now + q.toNat < 2 ^ 32 → q.toNat ≤ a4.ticks → now + a4.ticks < 2 ^ 32 →
      ∃ t, runSteps 5 s = .next t ∧ t.busy = false ∧ t.result = s.cfg.rc.timeout ∧ t.resultValid = true ∧
        writesOf t.history = (.cmd, cmdWord s.cfg s.cfg.catIndex.idle .none false true) :: (.arg, 0#32) ::
          writesOf s.history)

/-- R186, R108: `CLRF` as an operation: two steps, one ICR write, `RC_OK`, and afterwards all ten static flags are
clear; where no command is outstanding by then, the launch premise of R234 holds for the next operation. Two steps: the
closing step is part of the step of the ICR write, log entry 2 (DEDUCED). -/
def Obligations.ClearFlagsOperationClearsAllTen : Prop :=
  ∀ (s : State) (q : Word), Issued (.clrf q) s → s.cfg.wellFormed = true →
    ∃ t, runSteps 2 s = .next t ∧ t.pc = .idle ∧ t.busy = false ∧ t.result = s.cfg.rc.ok ∧ t.resultValid = true ∧
      t.history = .write .icr (staticMask s.cfg) :: s.history ∧
      (∀ f : StaticFlag, flagSet s.cfg f t.ctrl.sta = false) ∧
      ((environmentActs s).ctrl.outstanding = false → LaunchPremise t)

/-- R242, R246: a wait ends. If the tick source advances at every access by at least one tick and at most `b`, and the
deadline is at least `2 * b` away from the wrap, the engine leaves the poll loop within `deadline - now + 1` steps. -/
def Obligations.PollLoopEndsByTheDeadline : Prop :=
  ∀ (s : State) (q : Word) (i : Instr) (b : Nat), i ∈ commandOps q → Running i .poll s →
    s.env.tickCount % 2 ^ 32 ≤ s.lDeadline.toNat → s.lDeadline.toNat + 2 * b ≤ 2 ^ 32 →
    2 * (s.lDeadline.toNat - s.env.tickCount % 2 ^ 32 + 1) ≤ s.env.script.length →
    (∀ a ∈ s.env.script, 1 ≤ a.ticks ∧ a.ticks ≤ b) →
    ∃ n t, n ≤ s.lDeadline.toNat - s.env.tickCount % 2 ^ 32 + 1 ∧ runSteps n s = .next t ∧ t.pc ≠ .poll

/-- R66, R246, R120: the same for any way in which time passes, tick by tick or not at all for a while: where the tick
source reaches the deadline within `k` acts of the environment, as the fairness of R66 (`TickSourceFair`) says that it
does, and no two of these acts jump over the ticks between the deadline and the wrap, the engine leaves the poll loop,
after at most `k / 2 + 1` samples, whatever the controller does. -/
def Obligations.WaitEndsWhereTheTickSourceReachesTheDeadline : Prop :=
  ∀ (s : State) (q : Word) (i : Instr) (b k : Nat), i ∈ commandOps q → Running i .poll s →
    s.env.tickCount % 2 ^ 32 ≤ s.lDeadline.toNat → s.lDeadline.toNat + 2 * b ≤ 2 ^ 32 →
    deadlineCount s ≤ (s.env.after k).tickCount → (∀ j ≤ k, (s.env.after j).nextAct.ticks ≤ b) →
    ∃ n t, n ≤ k / 2 + 1 ∧ runSteps n s = .next t ∧ t.pc ≠ .poll

/-! ### Components -/

/-- R63: write-one-to-clear, flag by flag, in any well-formed layout: a selected flag reads 0 at the next read of STA
unless the controller has set it again; a flag not selected, and any other bit of STA, is unaffected. -/
def Obligations.WriteOneToClear : Prop :=
  (∀ (c : Config) (m sta : Word), c.wellFormed = true →
    (∀ f : StaticFlag, flagSet c f (clearFlags c m sta) = (flagSet c f sta && !clearsFlag c f m)) ∧
    (∀ n : Nat, (∀ f : StaticFlag, c.layout.sta.position f ≠ n) → (clearFlags c m sta).getLsbD n = sta.getLsbD n)) ∧
  ∀ (s : State) (m : Word) (f : StaticFlag), s.cfg.wellFormed = true →
    (clearsFlag s.cfg f m = true → flagSet s.cfg f (memWrite .icr m s).env.nextAct.set = false →
      flagSet s.cfg f (readValue .sta (memWrite .icr m s)) = false) ∧
    (clearsFlag s.cfg f m = false →
      flagSet s.cfg f (memWrite .icr m s).ctrl.sta = flagSet s.cfg f (environmentActs s).ctrl.sta)

/-- R108: after a write of `STATIC_MASK` all ten flags read clear, provided the controller set none in between, and a
second write changes nothing; in the default layout the two masks are equal. -/
def Obligations.StaticMaskClearsAllTenOnce : Prop :=
  (∀ (c : Config) (sta : Word), c.wellFormed = true →
    clearFlags c (staticMask c) sta &&& staticStaMask c = 0#32 ∧
    clearFlags c (staticMask c) (clearFlags c (staticMask c) sta) = clearFlags c (staticMask c) sta) ∧
  (∀ s : State, s.cfg.wellFormed = true →
    (clearStaticFlags s).env.nextAct.set &&& staticStaMask s.cfg = 0#32 →
    readValue .sta (clearStaticFlags s) &&& staticStaMask s.cfg = 0#32) ∧
  staticStaMask hardwareConfig = staticMask hardwareConfig

/-- R61: a static flag that is set stays set through every step, unless that step's write of ICR selects it. -/
def Obligations.StaticFlagsLatchUntilCleared : Prop :=
  ∀ (s t : State) (f : StaticFlag), s.cfg.wellFormed = true → step s = .next t →
    flagSet s.cfg f s.ctrl.sta = true → flagSet s.cfg f t.ctrl.sta = false →
    ∃ v, t.history = .write .icr v :: s.history ∧ clearsFlag s.cfg f v = true

/-- R31, R43, R62: a CMD write with `CPSMEN = 1` makes a command outstanding; it stays so until the controller sets
`CMDSENT`, `CMDREND`, `CCRCFAIL` or `CTIMEOUT`; and the command phase of every operation makes one outstanding. -/
def Obligations.CommandWriteMakesACommandOutstanding : Prop :=
  (∀ (s : State) (w : Word), cpsmEnField s.cfg w = true → (memWrite .cmd w s).ctrl.outstanding = true) ∧
  (∀ s : State, s.ctrl.outstanding = true → ((environmentActs s).ctrl.outstanding = false ↔
    ∃ f ∈ [StaticFlag.cmdsent, .cmdrend, .ccrcfail, .ctimeout], flagSet s.cfg f s.env.nextAct.set = true)) ∧
  (∀ (s t : State) (q : Word) (i : Instr), i ∈ commandOps q → s.cfg.wellFormed = true → s.pc = .cmd →
    exec i s = .next t → t.ctrl.outstanding = true)

/-- R151, R155: the result is the first named entry that matches, whatever else is set. -/
def Obligations.ClassifierReportsTheFirstNamedError : Prop :=
  ∀ (c : Config) (cs : Word) (t : CardStatusTag),
    classify c cs = some (.named t) ↔
      (cs &&& cardStatusMask c t ≠ 0#32 ∧
        ∀ u : CardStatusTag, u.number < t.number → cs &&& cardStatusMask c u = 0#32)

/-- R153, R154: the catch-all exactly where no named mask matches and a summary bit is set, success exactly where
neither. -/
def Obligations.ClassifierCatchAllAndSuccess : Prop :=
  ∀ (c : Config) (cs : Word),
    (classify c cs = some .unspecified ↔
      ((∀ t : CardStatusTag, cs &&& cardStatusMask c t = 0#32) ∧ cs &&& c.csSummary ≠ 0#32)) ∧
    (classify c cs = none ↔
      ((∀ t : CardStatusTag, cs &&& cardStatusMask c t = 0#32) ∧ cs &&& c.csSummary = 0#32)) ∧
    classify c cs ≠ some .r6ComCrcFailed ∧ classify c cs ≠ some .r6IllegalCmd ∧
    classify c cs ≠ some .r6GeneralUnknownError

/-- R160, R92, R152, R200: the 23 errors have 23 codes, none of them that of success, in any well-formed record; and the
codes of this hardware, each named: rule R92's table, and the sixteen of rule R152 in its order. -/
def Obligations.ResultCodesAreDistinct : Prop :=
  (∀ c : Config, c.wellFormed = true → (∀ e e' : EngineError, e.code c = e'.code c → e = e') ∧
    ∀ e : EngineError, e.code c ≠ c.rc.ok) ∧
  (∀ e : EngineError, e ∈ EngineError.all) ∧ EngineError.all.length = 23 ∧
  (let code := fun e : EngineError => (e.code hardwareConfig).toNat
   let named := fun t : CardStatusTag => code (.card (.named t))
   hardwareConfig.rc.ok = 0x00#8 ∧ code .timeout = 0x01 ∧ code (.protocol .cmdCrcFailed) = 0x02 ∧
   code (.protocol .cmdRespTimeout) = 0x03 ∧ named .seqError = 0x40 ∧ named .eraseReset = 0x41 ∧
   named .cardEccDisabled = 0x42 ∧ named .wpEraseSkip = 0x43 ∧ named .cidCsdOverwrite = 0x44 ∧ named .ccError = 0x45 ∧
   named .cardEccFailed = 0x46 ∧ named .illegalCommand = 0x47 ∧ named .comCrcError = 0x48 ∧
   named .lockUnlockFailed = 0x49 ∧ named .wpViolation = 0x4A ∧ named .eraseParam = 0x4B ∧
   named .eraseSeqError = 0x4C ∧ named .blockLenError = 0x4D ∧ named .addrMisaligned = 0x4E ∧
   named .addrOutOfRange = 0x4F ∧ code (.card .unspecified) = 0x50 ∧ code (.card .r6ComCrcFailed) = 0x51 ∧
   code (.card .r6IllegalCmd) = 0x52 ∧ code (.card .r6GeneralUnknownError) = 0x53) ∧
  ∀ t : CardStatusTag, ((EngineError.card (.named t)).code hardwareConfig).toNat = 0x40 + t.number

/-- R111, R112, R119: the deadline test. Without wrap it says `now + T ≤ L_T`; with `T = 0`, or with a wrap of `now + T`,
a first sample that has not wrapped is expired. -/
def Obligations.DeadlineTestAndItsWrap : Prop :=
  ∀ now timeout t : Word,
    (now.toNat + timeout.toNat < 2 ^ 32 →
      (deadlineReached t (now + timeout) = true ↔ now.toNat + timeout.toNat ≤ t.toNat)) ∧
    (now ≤ t → timeout = 0#32 → deadlineReached t (now + timeout) = true) ∧
    (now ≤ t → 2 ^ 32 ≤ now.toNat + timeout.toNat → deadlineReached t (now + timeout) = true)

/-- R207: raising an error writes the result, BUSY and the phase, and nothing else. -/
def Obligations.RaiseErrorWritesResultAlone : Prop :=
  ∀ (e : EngineError) (s : State), raiseError e s =
    { s with result := e.code s.cfg, resultValid := true, busy := false, pc := .idle }

/-- R53, R56, R67: what an access changes. The engine's own registers are untouched; ARG and CMD hold what was last
written to them, STA changes by a write of ICR alone, beyond the environment's act; a read or a tick read changes no
register beyond it; each access enters the history; the tick count never decreases. -/
def Obligations.AccessesLeaveTheEngineAlone : Prop :=
  ∀ s : State,
    let e := environmentActs s
    (∀ (r : WriteReg) (v : Word),
      let k := (memWrite r v s).ctrl
      memWrite r v s = { s with ctrl := k, env := e.env, history := .write r v :: s.history } ∧
      k.arg = (if r = .arg then v else s.ctrl.arg) ∧ k.cmd = (if r = .cmd then v else s.ctrl.cmd) ∧
      k.sta = (if r = .icr then clearFlags s.cfg v e.ctrl.sta else e.ctrl.sta) ∧
      k.respCmd = e.ctrl.respCmd ∧ k.resp1 = e.ctrl.resp1 ∧ k.payload = e.ctrl.payload ∧
      k.outstanding = (e.ctrl.outstanding || (decide (r = .cmd) && cpsmEnField s.cfg v))) ∧
    (∀ r : ReadReg, afterRead r s = { e with history := .read r (e.ctrl.read r) :: s.history }) ∧
    afterTickRead s = { e with history := .tick (BitVec.ofNat 32 e.env.tickCount) :: s.history } ∧
    e = { s with ctrl := e.ctrl, env := e.env } ∧ e.ctrl.arg = s.ctrl.arg ∧ e.ctrl.cmd = s.ctrl.cmd ∧
    s.env.tickCount ≤ e.env.tickCount

/-! ### The whole machine -/

/-- R14: a step makes at most one register access, or one tick read followed by one read of STA. -/
def Obligations.StepMakesAtMostOneAccess : Prop :=
  ∀ s t : State, step s = .next t →
    t.history = s.history ∨ (∃ r v, t.history = .write r v :: s.history) ∨ (∃ r v, t.history = .read r v :: s.history) ∨
    (∃ v, t.history = .tick v :: s.history) ∨ (∃ v w, t.history = .read .sta w :: .tick v :: s.history)

/-- R21, R24, R27, R41: which state each phase may change: the frame of every operation's step. That `x[RCA]` changes in
`PH_RESP`, not in a closing step of its own, is log entry 2 (DEDUCED). -/
def Obligations.EachPhaseChangesItsOwnStateAlone : Prop :=
  ∀ (i : Instr) (s t : State), exec i s = .next t →
    t.cfg = s.cfg ∧ t.op = s.op ∧ t.operand = s.operand ∧
    (s.pc ≠ .idle → t.start = s.start ∧ t.lOp = s.lOp ∧ t.lOperand = s.lOperand) ∧
    (s.pc ≠ .cmd → t.lIdx = s.lIdx ∧ t.ctrl.cmd = s.ctrl.cmd) ∧ (s.pc ≠ .arg → t.ctrl.arg = s.ctrl.arg) ∧
    (s.pc ≠ .t0 → t.lDeadline = s.lDeadline) ∧ (s.pc ≠ .poll → t.lT = s.lT ∧ t.lS = s.lS) ∧
    (s.pc ≠ .resp → t.lCs = s.lCs ∧ t.rca = s.rca ∧ t.rcaValid = s.rcaValid) ∧
    (t.pc ≠ .idle → t.result = s.result ∧ t.resultValid = s.resultValid) ∧
    (s.pc = .idle → t.ctrl = s.ctrl ∧ t.env = s.env ∧ t.history = s.history) ∧
    s.env.tickCount ≤ t.env.tickCount

/-- R27, R122, R139: no retry: an operation goes through its phases in order, repeats only the poll phase, and ends in
`PH_IDLE`. -/
def Obligations.OperationNeverGoesBack : Prop :=
  ∀ (i : Instr) (s t : State), exec i s = .next t → s.pc ≠ .idle →
    t.pc = .idle ∨ (s.pc = .poll ∧ t.pc = .poll) ∨ s.pc.rank < t.pc.rank

/-- R204: which operation can end with which result. -/
def Obligations.OperationEndsWithAnAllowedResult : Prop :=
  ∀ (i : Instr) (s t : State), exec i s = .next t → s.pc ≠ .idle → t.pc = .idle →
    t.result ∈ allowedResults s.cfg i.op ∧ t.resultValid = true ∧ t.busy = false

/-- R22: `x[RESULT]` changes in a closing step alone, and every closing step writes it, with `RC_OK` or the code of an
error. -/
def Obligations.ResultIsWrittenAtTheClosingStepAlone : Prop :=
  ∀ s t : State, step s = .next t →
    ((t.result ≠ s.result ∨ t.resultValid ≠ s.resultValid) → s.pc ≠ .idle ∧ t.pc = .idle ∧ t.busy = false) ∧
    (s.pc ≠ .idle → t.pc = .idle → t.resultValid = true ∧ t.busy = false ∧
      (t.result = s.cfg.rc.ok ∨ ∃ e : EngineError, t.result = e.code s.cfg))

/-- R23: `x[RCA]` is written only where `SET_REL_ADD` succeeds, with the upper half of the status read. That it is
written in the `PH_RESP` step itself is log entry 2 (DEDUCED). -/
def Obligations.RcaIsWrittenBySetRelAddAlone : Prop :=
  ∀ s t : State, step s = .next t → (t.rca ≠ s.rca ∨ t.rcaValid ≠ s.rcaValid) →
    Op.ofCode s.cfg s.lOp = some .setRelAdd ∧ s.pc = .resp ∧ t.pc = .idle ∧ t.result = s.cfg.rc.ok ∧
      t.rca = t.lCs.extractLsb' 16 16 ∧ t.rcaValid = true

/-- R70: what the host writes to `x[OP]` and `x[OPERAND]` while an operation runs does not affect it. -/
def Obligations.RunningOperationIgnoresTheHostPort : Prop :=
  ∀ (s : State) (o : BitVec 4) (v : Word), s.pc ≠ .idle →
    (∀ t, step s = .next t →
      step { s with op := o, operand := v } = .next { t with op := o, operand := v }) ∧
    (∀ r, step s = .refused r → step { s with op := o, operand := v } = .refused r)

/-- R77, U9: the operand bits an operation does not use have no influence on its steps after START. -/
def Obligations.UnusedOperandBitsHaveNoInfluence : Prop :=
  ∀ (s : State) (q q' : Word), s.pc ≠ .idle →
    exec (.operCond q) s = exec (.operCond q') s ∧ exec (.sendCid q) s = exec (.sendCid q') s ∧
    exec (.setRelAdd q) s = exec (.setRelAdd q') s ∧ exec (.stopTransfer q) s = exec (.stopTransfer q') s ∧
    exec (.clrf q) s = exec (.clrf q') s ∧
    (q.extractLsb' 0 16 = q'.extractLsb' 0 16 →
      exec (.sendCsd q) s = exec (.sendCsd q') s ∧ exec (.selDesel q) s = exec (.selDesel q') s)

/-- From every consistent state a step of the machine leads to a consistent state. -/
def Obligations.StepKeepsConsistency : Prop :=
  ∀ s t : State, Consistent s → step s = .next t → Consistent t

/-- A consistent engine with no misplaced START never stops: a step is a next state, or the refusal of an opcode with no
operation, which in a well-formed record is 0xF. -/
def Obligations.ConsistentEngineNeverStops : Prop :=
  ∀ s : State, Consistent s → (∃ t, step s = .next t) ∨
    (s.pc = .idle ∧ s.start = true ∧ Op.ofCode s.cfg s.op = none ∧ (s.cfg.wellFormed = true → s.op = 0xF#4) ∧
      step s = .refused .reservedOpcode)

/-- The host's moves and a reset at any time keep the state consistent. -/
def Obligations.HostMovesKeepConsistency : Prop :=
  ∀ s t : State, Consistent s →
    ((∃ v, hostWriteOp v s = .next t) ∨ (∃ v, hostWriteOperand v s = .next t) ∨ hostStart s = .next t ∨
      hostCopyRca s = .next t ∨ (∃ i, hostIssue i s = .next t) ∨ (∃ r v, hostReadController r s = .next (v, t)) ∨
      t = engineReset s) →
    Consistent t

/-- R36, R68, R89: from every state with a legal history a step leads to one: ARG before CMD, catalog words alone, the
three ICR masks alone. -/
def Obligations.StepKeepsTraceLegality : Prop :=
  ∀ s t : State, TraceLegal s → step s = .next t → TraceLegal t

/-- The state after reset is consistent and its history legal. -/
def Obligations.ResetStateIsConsistent : Prop :=
  Consistent State.reset ∧ TraceLegal State.reset

/-- R44, R45, R230: what reset gives: `PH_IDLE`, `BUSY = 0`, no access made, no value in `x[RESULT]` and `x[RCA]`, so
that the host's read of either is a fault of the model; and the same of a reset at any time, which keeps the controller,
the environment and the history (log entry 24). -/
def Obligations.ResetLeavesAnIdleEngine : Prop :=
  let fresh := fun t : State => t.pc = .idle ∧ t.busy = false ∧ t.start = false ∧ t.resultValid = false ∧
    t.rcaValid = false ∧ hostReadResult t = .fault .resultUnwritten ∧ hostReadRca t = .fault .rcaUnwritten
  fresh State.reset ∧ State.reset.history = [] ∧
  ∀ s : State, fresh (engineReset s) ∧ (engineReset s).cfg = s.cfg ∧ (engineReset s).ctrl = s.ctrl ∧
    (engineReset s).env = s.env ∧ (engineReset s).history = s.history

/-- R21, R22, R26, R94, R211, R238, R247, R248: the host's moves. BUSY is readable at any time; every other move needs
`BUSY = 0`, then writes the in-registers, asserts START with an assigned opcode, reads `x[RESULT]`, `x[RCA]` (a fault
where never written) or a register of the controller, copies `x[RCA]` into the operand, or issues an operation, whose
START the machine then has (`Issued`). That START does not ask whether the in-registers were written, and that the host
may read STA, are the model's choices: log entries 35 and 36. -/
def Obligations.HostMovesNeedAnIdleEngine : Prop :=
  ∀ (s : State) (v : BitVec 4) (w : Word) (i : Instr) (r : HostReg),
    hostReadBusy s = s.busy ∧
    (s.busy = true → hostWriteOp v s = .refused .hostAccessWhileBusy ∧
      hostWriteOperand w s = .refused .hostAccessWhileBusy ∧ hostStart s = .refused .startWhileBusy ∧
      hostReadResult s = .refused .hostAccessWhileBusy ∧ hostReadRca s = .refused .hostAccessWhileBusy ∧
      hostCopyRca s = .refused .hostAccessWhileBusy ∧ hostReadController r s = .refused .hostAccessWhileBusy ∧
      hostIssue i s = .refused .hostAccessWhileBusy) ∧
    (s.busy = false → hostWriteOp v s = .next { s with op := v } ∧
      hostWriteOperand w s = .next { s with operand := w } ∧
      (s.resultValid = true → hostReadResult s = .next s.result) ∧
      (s.resultValid = false → hostReadResult s = .fault .resultUnwritten) ∧
      (s.rcaValid = true → hostReadRca s = .next s.rca ∧ hostCopyRca s = .next { s with operand := 0#16 ++ s.rca }) ∧
      (s.rcaValid = false → hostReadRca s = .fault .rcaUnwritten ∧ hostCopyRca s = .fault .rcaUnwritten) ∧
      (let k := (environmentActs s).ctrl
       hostReadController r s = .next (match r with
        | .sta => k.sta
        | .respCmd => k.respCmd
        | .resp1 => k.resp1
        | .resp2 => k.payload.resp2
        | .resp3 => k.payload.resp3
        | .resp4 => k.payload.resp4, environmentActs s)) ∧
      (s.cfg.wellFormed = true →
        (s.op = 0xF#4 → hostStart s = .refused .reservedOpcode) ∧
        (s.op ≠ 0xF#4 → hostStart s = .next { s with start := true }) ∧
        (s.pc = .idle → ∃ t, hostIssue i s = .next t ∧ Issued i t ∧
          t = { s with op := i.op.code s.cfg, operand := i.operand, start := true })))
end

