-- ==== Sys2Proof/Laws/Flags.lean ====
section
/-! SUPPORT. Bits of the flag masks, and what an act of the environment and a write of ICR do to one bit of STA. -/

namespace Sys2Proof.Machine

/-- The only bit of `bitMask n` is bit `n`. -/
@[simp] theorem getLsbD_bitMask (n j : Nat) : (bitMask n).getLsbD j = (decide (j = n) && decide (j < 32)) := by
  unfold bitMask
  by_cases h : j = n
  · subst h; by_cases h' : j < 32 <;> simp [h']
  · by_cases h' : j < n
    · simp [h', h]
    · have : j - n ≠ 0 := by omega
      simp [h, this]

/-- Every flag is in the list of the ten. -/
theorem mem_staticFlag_all (f : StaticFlag) : f ∈ StaticFlag.all := by
  cases f <;> decide

/-- A bit of an or of masks is a bit of one of them. -/
theorem getLsbD_foldr_or (g : StaticFlag → Word) (l : List StaticFlag) (j : Nat) :
    (l.foldr (fun f m => g f ||| m) 0#32).getLsbD j = l.any (fun f => (g f).getLsbD j) := by
  induction l with
  | nil => simp
  | cons f l ih => simp [ih]

/-- `STATIC_MASK_STA` has a one at each flag's position. -/
theorem getLsbD_staticStaMask (c : Config) (f : StaticFlag) (h : c.layout.sta.position f < 32) :
    (staticStaMask c).getLsbD (c.layout.sta.position f) = true := by
  rw [staticStaMask, getLsbD_foldr_or, List.any_eq_true]
  exact ⟨f, mem_staticFlag_all f, by simp [staMask, h]⟩

/-- `STATIC_MASK` has a one at each clear bit's position. -/
theorem getLsbD_staticMask (c : Config) (f : StaticFlag) (h : c.layout.icr.position f < 32) :
    (staticMask c).getLsbD (c.layout.icr.position f) = true := by
  rw [staticMask, getLsbD_foldr_or, List.any_eq_true]
  exact ⟨f, mem_staticFlag_all f, by simp [icrMask, h]⟩

/-- The bits a write of ICR selects in STA. -/
theorem getLsbD_selectedFlags (c : Config) (m : Word) (j : Nat) :
    (selectedFlags c m).getLsbD j = StaticFlag.all.any (fun f => clearsFlag c f m && (staMask c f).getLsbD j) := by
  unfold selectedFlags
  induction StaticFlag.all with
  | nil => simp
  | cons f l ih =>
    rw [List.foldr_cons, List.any_cons, ← ih]
    cases clearsFlag c f m <;> simp

/-- A static flag after an act of the environment: set before, or set by the act. -/
theorem flagSet_actOnSta (c : Config) (a : EnvAct) (f : StaticFlag) (sta : Word) :
    flagSet c f (actOnSta c a sta) = (flagSet c f sta || flagSet c f a.set) := by
  unfold flagSet actOnSta
  by_cases h : c.layout.sta.position f < 32
  · cases a.other <;> simp [getLsbD_staticStaMask c f h]
  · simp [BitVec.getLsbD_of_ge _ _ (Nat.le_of_not_lt h)]

/-- A well-formed flag layout gives each flag a position of the register. -/
theorem flagLayout_position_lt {l : FlagLayout} (h : l.wellFormed = true) (f : StaticFlag) : l.position f < 32 := by
  simp only [FlagLayout.wellFormed, Bool.and_eq_true, List.all_eq_true, List.mem_map, forall_exists_index, and_imp,
    decide_eq_true_eq] at h
  exact h.1 _ f (mem_staticFlag_all f) rfl

/-- A well-formed flag layout gives different flags different positions. -/
theorem flagLayout_position_injective {l : FlagLayout} (h : l.wellFormed = true) {f g : StaticFlag}
    (e : l.position f = l.position g) : f = g := by
  simp only [FlagLayout.wellFormed, Bool.and_eq_true, decide_eq_true_eq] at h
  exact List.inj_on_of_nodup_map h.2 (mem_staticFlag_all f) (mem_staticFlag_all g) e

end Sys2Proof.Machine
end

