-- ==== Sys2Proof/Laws/State.lean ====
section
/-! SUPPORT. One lemma per field of State per named operation, each true by definition: no later proof unfolds a record
update. -/

namespace Sys2Proof.Machine

/-! ### environmentActs -/

@[simp] theorem environmentActs_cfg (s : State) : (environmentActs s).cfg = s.cfg := rfl
@[simp] theorem environmentActs_op (s : State) : (environmentActs s).op = s.op := rfl
@[simp] theorem environmentActs_operand (s : State) : (environmentActs s).operand = s.operand := rfl
@[simp] theorem environmentActs_start (s : State) : (environmentActs s).start = s.start := rfl
@[simp] theorem environmentActs_result (s : State) : (environmentActs s).result = s.result := rfl
@[simp] theorem environmentActs_resultValid (s : State) : (environmentActs s).resultValid = s.resultValid := rfl
@[simp] theorem environmentActs_rca (s : State) : (environmentActs s).rca = s.rca := rfl
@[simp] theorem environmentActs_rcaValid (s : State) : (environmentActs s).rcaValid = s.rcaValid := rfl
@[simp] theorem environmentActs_busy (s : State) : (environmentActs s).busy = s.busy := rfl
@[simp] theorem environmentActs_pc (s : State) : (environmentActs s).pc = s.pc := rfl
@[simp] theorem environmentActs_lOp (s : State) : (environmentActs s).lOp = s.lOp := rfl
@[simp] theorem environmentActs_lOperand (s : State) : (environmentActs s).lOperand = s.lOperand := rfl
@[simp] theorem environmentActs_lIdx (s : State) : (environmentActs s).lIdx = s.lIdx := rfl
@[simp] theorem environmentActs_lDeadline (s : State) : (environmentActs s).lDeadline = s.lDeadline := rfl
@[simp] theorem environmentActs_lT (s : State) : (environmentActs s).lT = s.lT := rfl
@[simp] theorem environmentActs_lS (s : State) : (environmentActs s).lS = s.lS := rfl
@[simp] theorem environmentActs_lCs (s : State) : (environmentActs s).lCs = s.lCs := rfl
@[simp] theorem environmentActs_ctrl (s : State) : (environmentActs s).ctrl = s.ctrl.act s.cfg s.env.nextAct := rfl
@[simp] theorem environmentActs_env (s : State) : (environmentActs s).env = s.env.advance := rfl
@[simp] theorem environmentActs_history (s : State) : (environmentActs s).history = s.history := rfl

/-! ### afterRead -/

@[simp] theorem afterRead_cfg (r : ReadReg) (s : State) : (afterRead r s).cfg = s.cfg := rfl
@[simp] theorem afterRead_op (r : ReadReg) (s : State) : (afterRead r s).op = s.op := rfl
@[simp] theorem afterRead_operand (r : ReadReg) (s : State) : (afterRead r s).operand = s.operand := rfl
@[simp] theorem afterRead_start (r : ReadReg) (s : State) : (afterRead r s).start = s.start := rfl
@[simp] theorem afterRead_result (r : ReadReg) (s : State) : (afterRead r s).result = s.result := rfl
@[simp] theorem afterRead_resultValid (r : ReadReg) (s : State) : (afterRead r s).resultValid = s.resultValid := rfl
@[simp] theorem afterRead_rca (r : ReadReg) (s : State) : (afterRead r s).rca = s.rca := rfl
@[simp] theorem afterRead_rcaValid (r : ReadReg) (s : State) : (afterRead r s).rcaValid = s.rcaValid := rfl
@[simp] theorem afterRead_busy (r : ReadReg) (s : State) : (afterRead r s).busy = s.busy := rfl
@[simp] theorem afterRead_pc (r : ReadReg) (s : State) : (afterRead r s).pc = s.pc := rfl
@[simp] theorem afterRead_lOp (r : ReadReg) (s : State) : (afterRead r s).lOp = s.lOp := rfl
@[simp] theorem afterRead_lOperand (r : ReadReg) (s : State) : (afterRead r s).lOperand = s.lOperand := rfl
@[simp] theorem afterRead_lIdx (r : ReadReg) (s : State) : (afterRead r s).lIdx = s.lIdx := rfl
@[simp] theorem afterRead_lDeadline (r : ReadReg) (s : State) : (afterRead r s).lDeadline = s.lDeadline := rfl
@[simp] theorem afterRead_lT (r : ReadReg) (s : State) : (afterRead r s).lT = s.lT := rfl
@[simp] theorem afterRead_lS (r : ReadReg) (s : State) : (afterRead r s).lS = s.lS := rfl
@[simp] theorem afterRead_lCs (r : ReadReg) (s : State) : (afterRead r s).lCs = s.lCs := rfl
@[simp] theorem afterRead_ctrl (r : ReadReg) (s : State) : (afterRead r s).ctrl = (environmentActs s).ctrl := rfl
@[simp] theorem afterRead_env (r : ReadReg) (s : State) : (afterRead r s).env = (environmentActs s).env := rfl
@[simp] theorem afterRead_history (r : ReadReg) (s : State) : (afterRead r s).history = .read r (readValue r s) :: s.history := rfl

/-! ### afterTickRead -/

@[simp] theorem afterTickRead_cfg (s : State) : (afterTickRead s).cfg = s.cfg := rfl
@[simp] theorem afterTickRead_op (s : State) : (afterTickRead s).op = s.op := rfl
@[simp] theorem afterTickRead_operand (s : State) : (afterTickRead s).operand = s.operand := rfl
@[simp] theorem afterTickRead_start (s : State) : (afterTickRead s).start = s.start := rfl
@[simp] theorem afterTickRead_result (s : State) : (afterTickRead s).result = s.result := rfl
@[simp] theorem afterTickRead_resultValid (s : State) : (afterTickRead s).resultValid = s.resultValid := rfl
@[simp] theorem afterTickRead_rca (s : State) : (afterTickRead s).rca = s.rca := rfl
@[simp] theorem afterTickRead_rcaValid (s : State) : (afterTickRead s).rcaValid = s.rcaValid := rfl
@[simp] theorem afterTickRead_busy (s : State) : (afterTickRead s).busy = s.busy := rfl
@[simp] theorem afterTickRead_pc (s : State) : (afterTickRead s).pc = s.pc := rfl
@[simp] theorem afterTickRead_lOp (s : State) : (afterTickRead s).lOp = s.lOp := rfl
@[simp] theorem afterTickRead_lOperand (s : State) : (afterTickRead s).lOperand = s.lOperand := rfl
@[simp] theorem afterTickRead_lIdx (s : State) : (afterTickRead s).lIdx = s.lIdx := rfl
@[simp] theorem afterTickRead_lDeadline (s : State) : (afterTickRead s).lDeadline = s.lDeadline := rfl
@[simp] theorem afterTickRead_lT (s : State) : (afterTickRead s).lT = s.lT := rfl
@[simp] theorem afterTickRead_lS (s : State) : (afterTickRead s).lS = s.lS := rfl
@[simp] theorem afterTickRead_lCs (s : State) : (afterTickRead s).lCs = s.lCs := rfl
@[simp] theorem afterTickRead_ctrl (s : State) : (afterTickRead s).ctrl = (environmentActs s).ctrl := rfl
@[simp] theorem afterTickRead_env (s : State) : (afterTickRead s).env = (environmentActs s).env := rfl
@[simp] theorem afterTickRead_history (s : State) : (afterTickRead s).history = .tick (tickReadValue s) :: s.history := rfl

/-! ### memWrite -/

@[simp] theorem memWrite_cfg (r : WriteReg) (v : Word) (s : State) : (memWrite r v s).cfg = s.cfg := rfl
@[simp] theorem memWrite_op (r : WriteReg) (v : Word) (s : State) : (memWrite r v s).op = s.op := rfl
@[simp] theorem memWrite_operand (r : WriteReg) (v : Word) (s : State) : (memWrite r v s).operand = s.operand := rfl
@[simp] theorem memWrite_start (r : WriteReg) (v : Word) (s : State) : (memWrite r v s).start = s.start := rfl
@[simp] theorem memWrite_result (r : WriteReg) (v : Word) (s : State) : (memWrite r v s).result = s.result := rfl
@[simp] theorem memWrite_resultValid (r : WriteReg) (v : Word) (s : State) : (memWrite r v s).resultValid = s.resultValid := rfl
@[simp] theorem memWrite_rca (r : WriteReg) (v : Word) (s : State) : (memWrite r v s).rca = s.rca := rfl
@[simp] theorem memWrite_rcaValid (r : WriteReg) (v : Word) (s : State) : (memWrite r v s).rcaValid = s.rcaValid := rfl
@[simp] theorem memWrite_busy (r : WriteReg) (v : Word) (s : State) : (memWrite r v s).busy = s.busy := rfl
@[simp] theorem memWrite_pc (r : WriteReg) (v : Word) (s : State) : (memWrite r v s).pc = s.pc := rfl
@[simp] theorem memWrite_lOp (r : WriteReg) (v : Word) (s : State) : (memWrite r v s).lOp = s.lOp := rfl
@[simp] theorem memWrite_lOperand (r : WriteReg) (v : Word) (s : State) : (memWrite r v s).lOperand = s.lOperand := rfl
@[simp] theorem memWrite_lIdx (r : WriteReg) (v : Word) (s : State) : (memWrite r v s).lIdx = s.lIdx := rfl
@[simp] theorem memWrite_lDeadline (r : WriteReg) (v : Word) (s : State) : (memWrite r v s).lDeadline = s.lDeadline := rfl
@[simp] theorem memWrite_lT (r : WriteReg) (v : Word) (s : State) : (memWrite r v s).lT = s.lT := rfl
@[simp] theorem memWrite_lS (r : WriteReg) (v : Word) (s : State) : (memWrite r v s).lS = s.lS := rfl
@[simp] theorem memWrite_lCs (r : WriteReg) (v : Word) (s : State) : (memWrite r v s).lCs = s.lCs := rfl
@[simp] theorem memWrite_ctrl (r : WriteReg) (v : Word) (s : State) : (memWrite r v s).ctrl = (environmentActs s).ctrl.write s.cfg v r := rfl
@[simp] theorem memWrite_env (r : WriteReg) (v : Word) (s : State) : (memWrite r v s).env = (environmentActs s).env := rfl
@[simp] theorem memWrite_history (r : WriteReg) (v : Word) (s : State) : (memWrite r v s).history = .write r v :: s.history := rfl

/-! ### goto -/

@[simp] theorem goto_cfg (p : Phase) (s : State) : (goto p s).cfg = s.cfg := rfl
@[simp] theorem goto_op (p : Phase) (s : State) : (goto p s).op = s.op := rfl
@[simp] theorem goto_operand (p : Phase) (s : State) : (goto p s).operand = s.operand := rfl
@[simp] theorem goto_start (p : Phase) (s : State) : (goto p s).start = s.start := rfl
@[simp] theorem goto_result (p : Phase) (s : State) : (goto p s).result = s.result := rfl
@[simp] theorem goto_resultValid (p : Phase) (s : State) : (goto p s).resultValid = s.resultValid := rfl
@[simp] theorem goto_rca (p : Phase) (s : State) : (goto p s).rca = s.rca := rfl
@[simp] theorem goto_rcaValid (p : Phase) (s : State) : (goto p s).rcaValid = s.rcaValid := rfl
@[simp] theorem goto_busy (p : Phase) (s : State) : (goto p s).busy = s.busy := rfl
@[simp] theorem goto_pc (p : Phase) (s : State) : (goto p s).pc = p := rfl
@[simp] theorem goto_lOp (p : Phase) (s : State) : (goto p s).lOp = s.lOp := rfl
@[simp] theorem goto_lOperand (p : Phase) (s : State) : (goto p s).lOperand = s.lOperand := rfl
@[simp] theorem goto_lIdx (p : Phase) (s : State) : (goto p s).lIdx = s.lIdx := rfl
@[simp] theorem goto_lDeadline (p : Phase) (s : State) : (goto p s).lDeadline = s.lDeadline := rfl
@[simp] theorem goto_lT (p : Phase) (s : State) : (goto p s).lT = s.lT := rfl
@[simp] theorem goto_lS (p : Phase) (s : State) : (goto p s).lS = s.lS := rfl
@[simp] theorem goto_lCs (p : Phase) (s : State) : (goto p s).lCs = s.lCs := rfl
@[simp] theorem goto_ctrl (p : Phase) (s : State) : (goto p s).ctrl = s.ctrl := rfl
@[simp] theorem goto_env (p : Phase) (s : State) : (goto p s).env = s.env := rfl
@[simp] theorem goto_history (p : Phase) (s : State) : (goto p s).history = s.history := rfl

/-! ### closeWith -/

@[simp] theorem closeWith_cfg (code : BitVec 8) (s : State) : (closeWith code s).cfg = s.cfg := rfl
@[simp] theorem closeWith_op (code : BitVec 8) (s : State) : (closeWith code s).op = s.op := rfl
@[simp] theorem closeWith_operand (code : BitVec 8) (s : State) : (closeWith code s).operand = s.operand := rfl
@[simp] theorem closeWith_start (code : BitVec 8) (s : State) : (closeWith code s).start = s.start := rfl
@[simp] theorem closeWith_result (code : BitVec 8) (s : State) : (closeWith code s).result = code := rfl
@[simp] theorem closeWith_resultValid (code : BitVec 8) (s : State) : (closeWith code s).resultValid = true := rfl
@[simp] theorem closeWith_rca (code : BitVec 8) (s : State) : (closeWith code s).rca = s.rca := rfl
@[simp] theorem closeWith_rcaValid (code : BitVec 8) (s : State) : (closeWith code s).rcaValid = s.rcaValid := rfl
@[simp] theorem closeWith_busy (code : BitVec 8) (s : State) : (closeWith code s).busy = false := rfl
@[simp] theorem closeWith_pc (code : BitVec 8) (s : State) : (closeWith code s).pc = .idle := rfl
@[simp] theorem closeWith_lOp (code : BitVec 8) (s : State) : (closeWith code s).lOp = s.lOp := rfl
@[simp] theorem closeWith_lOperand (code : BitVec 8) (s : State) : (closeWith code s).lOperand = s.lOperand := rfl
@[simp] theorem closeWith_lIdx (code : BitVec 8) (s : State) : (closeWith code s).lIdx = s.lIdx := rfl
@[simp] theorem closeWith_lDeadline (code : BitVec 8) (s : State) : (closeWith code s).lDeadline = s.lDeadline := rfl
@[simp] theorem closeWith_lT (code : BitVec 8) (s : State) : (closeWith code s).lT = s.lT := rfl
@[simp] theorem closeWith_lS (code : BitVec 8) (s : State) : (closeWith code s).lS = s.lS := rfl
@[simp] theorem closeWith_lCs (code : BitVec 8) (s : State) : (closeWith code s).lCs = s.lCs := rfl
@[simp] theorem closeWith_ctrl (code : BitVec 8) (s : State) : (closeWith code s).ctrl = s.ctrl := rfl
@[simp] theorem closeWith_env (code : BitVec 8) (s : State) : (closeWith code s).env = s.env := rfl
@[simp] theorem closeWith_history (code : BitVec 8) (s : State) : (closeWith code s).history = s.history := rfl

/-! ### closeOk -/

@[simp] theorem closeOk_cfg (s : State) : (closeOk s).cfg = s.cfg := rfl
@[simp] theorem closeOk_op (s : State) : (closeOk s).op = s.op := rfl
@[simp] theorem closeOk_operand (s : State) : (closeOk s).operand = s.operand := rfl
@[simp] theorem closeOk_start (s : State) : (closeOk s).start = s.start := rfl
@[simp] theorem closeOk_result (s : State) : (closeOk s).result = s.cfg.rc.ok := rfl
@[simp] theorem closeOk_resultValid (s : State) : (closeOk s).resultValid = true := rfl
@[simp] theorem closeOk_rca (s : State) : (closeOk s).rca = s.rca := rfl
@[simp] theorem closeOk_rcaValid (s : State) : (closeOk s).rcaValid = s.rcaValid := rfl
@[simp] theorem closeOk_busy (s : State) : (closeOk s).busy = false := rfl
@[simp] theorem closeOk_pc (s : State) : (closeOk s).pc = .idle := rfl
@[simp] theorem closeOk_lOp (s : State) : (closeOk s).lOp = s.lOp := rfl
@[simp] theorem closeOk_lOperand (s : State) : (closeOk s).lOperand = s.lOperand := rfl
@[simp] theorem closeOk_lIdx (s : State) : (closeOk s).lIdx = s.lIdx := rfl
@[simp] theorem closeOk_lDeadline (s : State) : (closeOk s).lDeadline = s.lDeadline := rfl
@[simp] theorem closeOk_lT (s : State) : (closeOk s).lT = s.lT := rfl
@[simp] theorem closeOk_lS (s : State) : (closeOk s).lS = s.lS := rfl
@[simp] theorem closeOk_lCs (s : State) : (closeOk s).lCs = s.lCs := rfl
@[simp] theorem closeOk_ctrl (s : State) : (closeOk s).ctrl = s.ctrl := rfl
@[simp] theorem closeOk_env (s : State) : (closeOk s).env = s.env := rfl
@[simp] theorem closeOk_history (s : State) : (closeOk s).history = s.history := rfl

/-! ### closeWithRca -/

@[simp] theorem closeWithRca_cfg (r : BitVec 16) (s : State) : (closeWithRca r s).cfg = s.cfg := rfl
@[simp] theorem closeWithRca_op (r : BitVec 16) (s : State) : (closeWithRca r s).op = s.op := rfl
@[simp] theorem closeWithRca_operand (r : BitVec 16) (s : State) : (closeWithRca r s).operand = s.operand := rfl
@[simp] theorem closeWithRca_start (r : BitVec 16) (s : State) : (closeWithRca r s).start = s.start := rfl
@[simp] theorem closeWithRca_result (r : BitVec 16) (s : State) : (closeWithRca r s).result = s.cfg.rc.ok := rfl
@[simp] theorem closeWithRca_resultValid (r : BitVec 16) (s : State) : (closeWithRca r s).resultValid = true := rfl
@[simp] theorem closeWithRca_rca (r : BitVec 16) (s : State) : (closeWithRca r s).rca = r := rfl
@[simp] theorem closeWithRca_rcaValid (r : BitVec 16) (s : State) : (closeWithRca r s).rcaValid = true := rfl
@[simp] theorem closeWithRca_busy (r : BitVec 16) (s : State) : (closeWithRca r s).busy = false := rfl
@[simp] theorem closeWithRca_pc (r : BitVec 16) (s : State) : (closeWithRca r s).pc = .idle := rfl
@[simp] theorem closeWithRca_lOp (r : BitVec 16) (s : State) : (closeWithRca r s).lOp = s.lOp := rfl
@[simp] theorem closeWithRca_lOperand (r : BitVec 16) (s : State) : (closeWithRca r s).lOperand = s.lOperand := rfl
@[simp] theorem closeWithRca_lIdx (r : BitVec 16) (s : State) : (closeWithRca r s).lIdx = s.lIdx := rfl
@[simp] theorem closeWithRca_lDeadline (r : BitVec 16) (s : State) : (closeWithRca r s).lDeadline = s.lDeadline := rfl
@[simp] theorem closeWithRca_lT (r : BitVec 16) (s : State) : (closeWithRca r s).lT = s.lT := rfl
@[simp] theorem closeWithRca_lS (r : BitVec 16) (s : State) : (closeWithRca r s).lS = s.lS := rfl
@[simp] theorem closeWithRca_lCs (r : BitVec 16) (s : State) : (closeWithRca r s).lCs = s.lCs := rfl
@[simp] theorem closeWithRca_ctrl (r : BitVec 16) (s : State) : (closeWithRca r s).ctrl = s.ctrl := rfl
@[simp] theorem closeWithRca_env (r : BitVec 16) (s : State) : (closeWithRca r s).env = s.env := rfl
@[simp] theorem closeWithRca_history (r : BitVec 16) (s : State) : (closeWithRca r s).history = s.history := rfl

/-! ### raiseError -/

@[simp] theorem raiseError_cfg (e : EngineError) (s : State) : (raiseError e s).cfg = s.cfg := rfl
@[simp] theorem raiseError_op (e : EngineError) (s : State) : (raiseError e s).op = s.op := rfl
@[simp] theorem raiseError_operand (e : EngineError) (s : State) : (raiseError e s).operand = s.operand := rfl
@[simp] theorem raiseError_start (e : EngineError) (s : State) : (raiseError e s).start = s.start := rfl
@[simp] theorem raiseError_result (e : EngineError) (s : State) : (raiseError e s).result = e.code s.cfg := rfl
@[simp] theorem raiseError_resultValid (e : EngineError) (s : State) : (raiseError e s).resultValid = true := rfl
@[simp] theorem raiseError_rca (e : EngineError) (s : State) : (raiseError e s).rca = s.rca := rfl
@[simp] theorem raiseError_rcaValid (e : EngineError) (s : State) : (raiseError e s).rcaValid = s.rcaValid := rfl
@[simp] theorem raiseError_busy (e : EngineError) (s : State) : (raiseError e s).busy = false := rfl
@[simp] theorem raiseError_pc (e : EngineError) (s : State) : (raiseError e s).pc = .idle := rfl
@[simp] theorem raiseError_lOp (e : EngineError) (s : State) : (raiseError e s).lOp = s.lOp := rfl
@[simp] theorem raiseError_lOperand (e : EngineError) (s : State) : (raiseError e s).lOperand = s.lOperand := rfl
@[simp] theorem raiseError_lIdx (e : EngineError) (s : State) : (raiseError e s).lIdx = s.lIdx := rfl
@[simp] theorem raiseError_lDeadline (e : EngineError) (s : State) : (raiseError e s).lDeadline = s.lDeadline := rfl
@[simp] theorem raiseError_lT (e : EngineError) (s : State) : (raiseError e s).lT = s.lT := rfl
@[simp] theorem raiseError_lS (e : EngineError) (s : State) : (raiseError e s).lS = s.lS := rfl
@[simp] theorem raiseError_lCs (e : EngineError) (s : State) : (raiseError e s).lCs = s.lCs := rfl
@[simp] theorem raiseError_ctrl (e : EngineError) (s : State) : (raiseError e s).ctrl = s.ctrl := rfl
@[simp] theorem raiseError_env (e : EngineError) (s : State) : (raiseError e s).env = s.env := rfl
@[simp] theorem raiseError_history (e : EngineError) (s : State) : (raiseError e s).history = s.history := rfl

/-! ### takeSample -/

@[simp] theorem takeSample_cfg (s : State) : (takeSample s).cfg = s.cfg := by
  unfold takeSample; simp
@[simp] theorem takeSample_op (s : State) : (takeSample s).op = s.op := by
  unfold takeSample; simp
@[simp] theorem takeSample_operand (s : State) : (takeSample s).operand = s.operand := by
  unfold takeSample; simp
@[simp] theorem takeSample_start (s : State) : (takeSample s).start = s.start := by
  unfold takeSample; simp
@[simp] theorem takeSample_result (s : State) : (takeSample s).result = s.result := by
  unfold takeSample; simp
@[simp] theorem takeSample_resultValid (s : State) : (takeSample s).resultValid = s.resultValid := by
  unfold takeSample; simp
@[simp] theorem takeSample_rca (s : State) : (takeSample s).rca = s.rca := by
  unfold takeSample; simp
@[simp] theorem takeSample_rcaValid (s : State) : (takeSample s).rcaValid = s.rcaValid := by
  unfold takeSample; simp
@[simp] theorem takeSample_busy (s : State) : (takeSample s).busy = s.busy := by
  unfold takeSample; simp
@[simp] theorem takeSample_pc (s : State) : (takeSample s).pc = s.pc := by
  unfold takeSample; simp
@[simp] theorem takeSample_lOp (s : State) : (takeSample s).lOp = s.lOp := by
  unfold takeSample; simp
@[simp] theorem takeSample_lOperand (s : State) : (takeSample s).lOperand = s.lOperand := by
  unfold takeSample; simp
@[simp] theorem takeSample_lIdx (s : State) : (takeSample s).lIdx = s.lIdx := by
  unfold takeSample; simp
@[simp] theorem takeSample_lDeadline (s : State) : (takeSample s).lDeadline = s.lDeadline := by
  unfold takeSample; simp
@[simp] theorem takeSample_lT (s : State) : (takeSample s).lT = tickReadValue s := rfl
@[simp] theorem takeSample_lS (s : State) : (takeSample s).lS = readValue .sta (afterTickRead s) := rfl
@[simp] theorem takeSample_lCs (s : State) : (takeSample s).lCs = s.lCs := by
  unfold takeSample; simp
@[simp] theorem takeSample_ctrl (s : State) : (takeSample s).ctrl = (environmentActs (environmentActs s)).ctrl := by
  unfold takeSample; simp
@[simp] theorem takeSample_env (s : State) : (takeSample s).env = (environmentActs (environmentActs s)).env := by
  unfold takeSample; simp
@[simp] theorem takeSample_history (s : State) : (takeSample s).history = .read .sta (readValue .sta (afterTickRead s)) :: .tick (tickReadValue s) :: s.history := by
  unfold takeSample; simp

/-! ### readStatus -/

@[simp] theorem readStatus_cfg (s : State) : (readStatus s).cfg = s.cfg := rfl
@[simp] theorem readStatus_op (s : State) : (readStatus s).op = s.op := rfl
@[simp] theorem readStatus_operand (s : State) : (readStatus s).operand = s.operand := rfl
@[simp] theorem readStatus_start (s : State) : (readStatus s).start = s.start := rfl
@[simp] theorem readStatus_result (s : State) : (readStatus s).result = s.result := rfl
@[simp] theorem readStatus_resultValid (s : State) : (readStatus s).resultValid = s.resultValid := rfl
@[simp] theorem readStatus_rca (s : State) : (readStatus s).rca = s.rca := rfl
@[simp] theorem readStatus_rcaValid (s : State) : (readStatus s).rcaValid = s.rcaValid := rfl
@[simp] theorem readStatus_busy (s : State) : (readStatus s).busy = s.busy := rfl
@[simp] theorem readStatus_pc (s : State) : (readStatus s).pc = s.pc := rfl
@[simp] theorem readStatus_lOp (s : State) : (readStatus s).lOp = s.lOp := rfl
@[simp] theorem readStatus_lOperand (s : State) : (readStatus s).lOperand = s.lOperand := rfl
@[simp] theorem readStatus_lIdx (s : State) : (readStatus s).lIdx = s.lIdx := rfl
@[simp] theorem readStatus_lDeadline (s : State) : (readStatus s).lDeadline = s.lDeadline := rfl
@[simp] theorem readStatus_lT (s : State) : (readStatus s).lT = s.lT := rfl
@[simp] theorem readStatus_lS (s : State) : (readStatus s).lS = s.lS := rfl
@[simp] theorem readStatus_lCs (s : State) : (readStatus s).lCs = readValue .resp1 s := rfl
@[simp] theorem readStatus_ctrl (s : State) : (readStatus s).ctrl = (environmentActs s).ctrl := rfl
@[simp] theorem readStatus_env (s : State) : (readStatus s).env = (environmentActs s).env := rfl
@[simp] theorem readStatus_history (s : State) : (readStatus s).history = .read .resp1 (readValue .resp1 s) :: s.history := rfl

/-! ### clearStaticFlags -/

@[simp] theorem clearStaticFlags_cfg (s : State) : (clearStaticFlags s).cfg = s.cfg := rfl
@[simp] theorem clearStaticFlags_op (s : State) : (clearStaticFlags s).op = s.op := rfl
@[simp] theorem clearStaticFlags_operand (s : State) : (clearStaticFlags s).operand = s.operand := rfl
@[simp] theorem clearStaticFlags_start (s : State) : (clearStaticFlags s).start = s.start := rfl
@[simp] theorem clearStaticFlags_result (s : State) : (clearStaticFlags s).result = s.result := rfl
@[simp] theorem clearStaticFlags_resultValid (s : State) : (clearStaticFlags s).resultValid = s.resultValid := rfl
@[simp] theorem clearStaticFlags_rca (s : State) : (clearStaticFlags s).rca = s.rca := rfl
@[simp] theorem clearStaticFlags_rcaValid (s : State) : (clearStaticFlags s).rcaValid = s.rcaValid := rfl
@[simp] theorem clearStaticFlags_busy (s : State) : (clearStaticFlags s).busy = s.busy := rfl
@[simp] theorem clearStaticFlags_pc (s : State) : (clearStaticFlags s).pc = s.pc := rfl
@[simp] theorem clearStaticFlags_lOp (s : State) : (clearStaticFlags s).lOp = s.lOp := rfl
@[simp] theorem clearStaticFlags_lOperand (s : State) : (clearStaticFlags s).lOperand = s.lOperand := rfl
@[simp] theorem clearStaticFlags_lIdx (s : State) : (clearStaticFlags s).lIdx = s.lIdx := rfl
@[simp] theorem clearStaticFlags_lDeadline (s : State) : (clearStaticFlags s).lDeadline = s.lDeadline := rfl
@[simp] theorem clearStaticFlags_lT (s : State) : (clearStaticFlags s).lT = s.lT := rfl
@[simp] theorem clearStaticFlags_lS (s : State) : (clearStaticFlags s).lS = s.lS := rfl
@[simp] theorem clearStaticFlags_lCs (s : State) : (clearStaticFlags s).lCs = s.lCs := rfl
@[simp] theorem clearStaticFlags_ctrl (s : State) : (clearStaticFlags s).ctrl = (environmentActs s).ctrl.write s.cfg (staticMask s.cfg) .icr := rfl
@[simp] theorem clearStaticFlags_env (s : State) : (clearStaticFlags s).env = (environmentActs s).env := rfl
@[simp] theorem clearStaticFlags_history (s : State) : (clearStaticFlags s).history = .write .icr (staticMask s.cfg) :: s.history := rfl

/-! ### the controller -/

@[simp] theorem controller_act_arg (c : Config) (a : EnvAct) (k : Controller) : (k.act c a).arg = k.arg := rfl
@[simp] theorem controller_act_cmd (c : Config) (a : EnvAct) (k : Controller) : (k.act c a).cmd = k.cmd := rfl
@[simp] theorem controller_act_sta (c : Config) (a : EnvAct) (k : Controller) : (k.act c a).sta = actOnSta c a k.sta := rfl
@[simp] theorem controller_act_respCmd (c : Config) (a : EnvAct) (k : Controller) : (k.act c a).respCmd = a.respCmd.getD k.respCmd := rfl
@[simp] theorem controller_act_resp1 (c : Config) (a : EnvAct) (k : Controller) : (k.act c a).resp1 = a.resp1.getD k.resp1 := rfl
@[simp] theorem controller_act_payload (c : Config) (a : EnvAct) (k : Controller) : (k.act c a).payload = a.payload.getD k.payload := rfl
@[simp] theorem controller_act_outstanding (c : Config) (a : EnvAct) (k : Controller) : (k.act c a).outstanding = (k.outstanding && !endsCommand c a.set) := rfl
@[simp] theorem controller_write_arg_arg (c : Config) (v : Word) (k : Controller) : (k.write c v .arg).arg = v := rfl
@[simp] theorem controller_write_arg_cmd (c : Config) (v : Word) (k : Controller) : (k.write c v .arg).cmd = k.cmd := rfl
@[simp] theorem controller_write_arg_sta (c : Config) (v : Word) (k : Controller) : (k.write c v .arg).sta = k.sta := rfl
@[simp] theorem controller_write_arg_respCmd (c : Config) (v : Word) (k : Controller) : (k.write c v .arg).respCmd = k.respCmd := rfl
@[simp] theorem controller_write_arg_resp1 (c : Config) (v : Word) (k : Controller) : (k.write c v .arg).resp1 = k.resp1 := rfl
@[simp] theorem controller_write_arg_payload (c : Config) (v : Word) (k : Controller) : (k.write c v .arg).payload = k.payload := rfl
@[simp] theorem controller_write_arg_outstanding (c : Config) (v : Word) (k : Controller) : (k.write c v .arg).outstanding = k.outstanding := rfl
@[simp] theorem controller_write_cmd_arg (c : Config) (v : Word) (k : Controller) : (k.write c v .cmd).arg = k.arg := rfl
@[simp] theorem controller_write_cmd_cmd (c : Config) (v : Word) (k : Controller) : (k.write c v .cmd).cmd = v := rfl
@[simp] theorem controller_write_cmd_sta (c : Config) (v : Word) (k : Controller) : (k.write c v .cmd).sta = k.sta := rfl
@[simp] theorem controller_write_cmd_respCmd (c : Config) (v : Word) (k : Controller) : (k.write c v .cmd).respCmd = k.respCmd := rfl
@[simp] theorem controller_write_cmd_resp1 (c : Config) (v : Word) (k : Controller) : (k.write c v .cmd).resp1 = k.resp1 := rfl
@[simp] theorem controller_write_cmd_payload (c : Config) (v : Word) (k : Controller) : (k.write c v .cmd).payload = k.payload := rfl
@[simp] theorem controller_write_cmd_outstanding (c : Config) (v : Word) (k : Controller) : (k.write c v .cmd).outstanding = (k.outstanding || cpsmEnField c v) := rfl
@[simp] theorem controller_write_icr_arg (c : Config) (v : Word) (k : Controller) : (k.write c v .icr).arg = k.arg := rfl
@[simp] theorem controller_write_icr_cmd (c : Config) (v : Word) (k : Controller) : (k.write c v .icr).cmd = k.cmd := rfl
@[simp] theorem controller_write_icr_sta (c : Config) (v : Word) (k : Controller) : (k.write c v .icr).sta = clearFlags c v k.sta := rfl
@[simp] theorem controller_write_icr_respCmd (c : Config) (v : Word) (k : Controller) : (k.write c v .icr).respCmd = k.respCmd := rfl
@[simp] theorem controller_write_icr_resp1 (c : Config) (v : Word) (k : Controller) : (k.write c v .icr).resp1 = k.resp1 := rfl
@[simp] theorem controller_write_icr_payload (c : Config) (v : Word) (k : Controller) : (k.write c v .icr).payload = k.payload := rfl
@[simp] theorem controller_write_icr_outstanding (c : Config) (v : Word) (k : Controller) : (k.write c v .icr).outstanding = k.outstanding := rfl
@[simp] theorem controller_read_sta (k : Controller) : k.read .sta = k.sta := rfl
@[simp] theorem controller_read_respCmd (k : Controller) : k.read .respCmd = k.respCmd := rfl
@[simp] theorem controller_read_resp1 (k : Controller) : k.read .resp1 = k.resp1 := rfl
@[simp] theorem controller_hostRead_sta (k : Controller) : k.hostRead .sta = k.sta := rfl
@[simp] theorem controller_hostRead_respCmd (k : Controller) : k.hostRead .respCmd = k.respCmd := rfl
@[simp] theorem controller_hostRead_resp1 (k : Controller) : k.hostRead .resp1 = k.resp1 := rfl
@[simp] theorem controller_hostRead_resp2 (k : Controller) : k.hostRead .resp2 = k.payload.resp2 := rfl
@[simp] theorem controller_hostRead_resp3 (k : Controller) : k.hostRead .resp3 = k.payload.resp3 := rfl
@[simp] theorem controller_hostRead_resp4 (k : Controller) : k.hostRead .resp4 = k.payload.resp4 := rfl

/-! ### the rest of the environment -/

@[simp] theorem environment_advance_tickCount (e : Environment) :
    e.advance.tickCount = e.tickCount + e.nextAct.ticks := rfl
@[simp] theorem environment_advance_script (e : Environment) : e.advance.script = e.script.tail := rfl
@[simp] theorem environment_advance_draws (e : Environment) : e.advance.draws = e.draws + 1 := rfl

/-- Where the script says what comes next, no free act is drawn. -/
theorem environment_nextAct_of_script {e : Environment} {a : EnvAct} {rest : List EnvAct} (h : e.script = a :: rest) :
    e.nextAct = a := by
  simp [Environment.nextAct, h]

/-! ### values read -/

@[simp] theorem readValue_eq (r : ReadReg) (s : State) : readValue r s = (environmentActs s).ctrl.read r := rfl
@[simp] theorem tickReadValue_eq (s : State) :
    tickReadValue s = BitVec.ofNat 32 (s.env.tickCount + s.env.nextAct.ticks) := rfl
@[simp] theorem tickValue_eq (s : State) : tickValue s = BitVec.ofNat 32 s.env.tickCount := rfl

end Sys2Proof.Machine
end

