-- ==== Sys2Proof/Laws/Ops.lean ====
section
/-! SUPPORT. For each shared operation, once, everything it can do. Proofs cite these and do not unfold the operation. -/

namespace Sys2Proof.Machine

/-! ### Accesses and closing steps -/

/-- All that the environment's act does. -/
theorem environmentActs_eq (s : State) :
    environmentActs s = { s with ctrl := s.ctrl.act s.cfg s.env.nextAct, env := s.env.advance } := rfl

/-- All that a register read does. -/
theorem afterRead_eq (r : ReadReg) (s : State) :
    afterRead r s =
      { environmentActs s with history := .read r ((environmentActs s).ctrl.read r) :: s.history } := rfl

/-- All that a tick read does. -/
theorem afterTickRead_eq (s : State) :
    afterTickRead s =
      { environmentActs s with history := .tick (BitVec.ofNat 32 (environmentActs s).env.tickCount) :: s.history } := rfl

/-- All that a register write does. -/
theorem memWrite_eq (r : WriteReg) (v : Word) (s : State) :
    memWrite r v s = { environmentActs s with
      ctrl := (environmentActs s).ctrl.write s.cfg v r, history := .write r v :: s.history } := rfl

/-- All that a closing step with success does. -/
theorem closeOk_eq (s : State) :
    closeOk s = { s with result := s.cfg.rc.ok, resultValid := true, busy := false, pc := .idle } := rfl

/-- All that the closing step of a successful `SET_REL_ADD` does. -/
theorem closeWithRca_eq (r : BitVec 16) (s : State) :
    closeWithRca r s =
      { s with rca := r, rcaValid := true, result := s.cfg.rc.ok, resultValid := true, busy := false, pc := .idle } := rfl

/-- START either latches the descriptor or finds the engine busy. -/
theorem startOperation_cases (code : BitVec 4) (q : Word) (first : Phase) (s : State) :
    (s.busy = true ∧ startOperation code q first s = .refused .startWhileBusy) ∨
    (s.busy = false ∧ startOperation code q first s =
      .next { s with lOp := code, lOperand := q, busy := true, start := false, pc := first }) := by
  cases h : s.busy <;> simp [startOperation, h]

/-! ### The phases of the wait and of the decoders -/

/-- A poll iteration ends in one of four ways, by the sample's verdict. -/
theorem pollOnce_cases (d : Decoder) (s : State) :
    let m := takeSample s
    let v := d.verdict s.cfg s.lDeadline m.lT m.lS
    (v = .expired ∧ pollOnce d s = raiseError .timeout m) ∨ (v = .hwTimeout ∧ pollOnce d s = goto .clrt m) ∨
    (v = .done ∧ pollOnce d s = afterWait d m) ∨ (v = .again ∧ pollOnce d s = goto .poll m) := by
  intro m v
  have h : d.verdict m.cfg m.lDeadline m.lT m.lS = v := by
    simp only [v, m, takeSample_cfg, takeSample_lDeadline]
  unfold pollOnce pollOutcome
  rw [h]
  cases v <;> simp [m]

/-- The CRC inspection ends in one of three phases. -/
theorem inspectCrc_cases (d : Decoder) (s : State) :
    (flagSet s.cfg .ccrcfail (readValue .sta s) = true ∧ inspectCrc d s = goto .clrc (afterRead .sta s)) ∨
    (flagSet s.cfg .ccrcfail (readValue .sta s) = false ∧ d.readsStatus = true ∧
      inspectCrc d s = goto .echo (afterRead .sta s)) ∨
    (flagSet s.cfg .ccrcfail (readValue .sta s) = false ∧ d.readsStatus = false ∧
      inspectCrc d s = goto .clrf (afterRead .sta s)) := by
  unfold inspectCrc
  cases flagSet s.cfg .ccrcfail (readValue .sta s) <;> cases d.readsStatus <;> simp

/-- The echo check goes on or raises `CmdCrcFailed`. -/
theorem checkEcho_cases (s : State) :
    (echoedIndex s.cfg (readValue .respCmd s) = s.lIdx ∧ checkEcho s = goto .clrf (afterRead .respCmd s)) ∨
    (echoedIndex s.cfg (readValue .respCmd s) ≠ s.lIdx ∧
      checkEcho s = raiseError (.protocol .cmdCrcFailed) (afterRead .respCmd s)) := by
  unfold checkEcho
  by_cases h : echoedIndex s.cfg (readValue .respCmd s) = s.lIdx <;> simp only [h, ↓reduceIte, true_and, ne_eq,
    not_true_eq_false, false_and, or_false, not_false_eq_true, or_true]

/-- `DEC_R1` ends with the classifier's answer. -/
theorem finishR1_cases (s : State) :
    (classify s.cfg s.lCs = none ∧ finishR1 s = closeOk s) ∨
    ∃ e, classify s.cfg s.lCs = some e ∧ finishR1 s = raiseError (.card e) s := by
  unfold finishR1
  cases classify s.cfg s.lCs <;> simp

/-- `DEC_R6` ends with the R6 classifier's answer. -/
theorem finishR6_cases (s : State) :
    (classifyR6 s.cfg s.lCs = none ∧ finishR6 s = closeWithRca (rcaOfStatus s.lCs) s) ∨
    ∃ e, classifyR6 s.cfg s.lCs = some e ∧ finishR6 s = raiseError (.card e) s := by
  unfold finishR6
  cases classifyR6 s.cfg s.lCs <;> simp

/-- The status phase of the two decoders that have one. -/
theorem interpretStatus_cases (d : Decoder) (s : State) (h : d.readsStatus = true) :
    (d = .r1 ∧ interpretStatus d s = finishR1 (readStatus s)) ∨
    (d = .r6 ∧ interpretStatus d s = finishR6 (readStatus s)) := by
  cases d <;> simp_all [Decoder.readsStatus, interpretStatus]

/-- A phase that only some operations have is a next state where the operation has it. -/
@[simp] theorem phaseStep_true (t : State) : phaseStep true t = .next t := rfl

@[simp] theorem phaseStep_false (t : State) : phaseStep false t = .refused .phaseNotInOperation := rfl

/-- If a phase step answers a next state, the operation has the phase and this is its step. -/
theorem phaseStep_next {has : Bool} {t u : State} (h : phaseStep has t = .next u) : has = true ∧ u = t := by
  cases has
  · simp at h
  · simpa [eq_comm] using h

/-! ### The phase table -/

/-- If a catalog operation's step answers a next state, it is the step of one phase that the operation has. -/
theorem runCommand_next {e : CatalogEntry} {code : BitVec 4} {q : Word} {s t : State}
    (h : runCommand e code q s = .next t) :
    (s.pc = .idle ∧ s.busy = false ∧
      t = { s with lOp := code, lOperand := q, busy := true, start := false, pc := .arg }) ∨
    (s.pc = .arg ∧ t = writeArgument (buildArgument e.builder q) s) ∨
    (s.pc = .cmd ∧ t = writeCommand e.idx e.mode s) ∨
    (s.pc = .t0 ∧ t = captureDeadline (entryTimeout s.cfg e q) s) ∨
    (s.pc = .poll ∧ t = pollOnce e.decoder s) ∨
    (s.pc = .clrt ∧ e.decoder.waitsForResponse = true ∧ t = clearHwTimeout s) ∨
    (s.pc = .crc ∧ e.decoder.checksCrc = true ∧ t = inspectCrc e.decoder s) ∨
    (s.pc = .clrc ∧ e.decoder.checksCrc = true ∧ t = clearCrcFail s) ∨
    (s.pc = .echo ∧ e.decoder.readsStatus = true ∧ t = checkEcho s) ∨
    (s.pc = .clrf ∧ e.decoder.waitsForResponse = true ∧ t = clearAfterResponse e.decoder s) ∨
    (s.pc = .resp ∧ e.decoder.readsStatus = true ∧ t = interpretStatus e.decoder s) := by
  unfold runCommand at h
  split at h <;> rename_i hp
  · rcases startOperation_cases code q .arg s with ⟨_, h'⟩ | ⟨hb, h'⟩
    · rw [h'] at h; cases h
    · rw [h'] at h; injection h with h; subst h; simp [hp, hb]
  · injection h with h; simp [hp, h]
  · injection h with h; simp [hp, h]
  · injection h with h; simp [hp, h]
  · injection h with h; simp [hp, h]
  all_goals obtain ⟨hh, rfl⟩ := phaseStep_next h; simp [hp, hh]

/-- If `CLRF`'s step answers a next state, it is START or the one write and the end. -/
theorem runClearFlags_next {code : BitVec 4} {q : Word} {s t : State} (h : runClearFlags code q s = .next t) :
    (s.pc = .idle ∧ s.busy = false ∧
      t = { s with lOp := code, lOperand := q, busy := true, start := false, pc := .clrf }) ∨
    (s.pc = .clrf ∧ t = closeOk (clearStaticFlags s)) := by
  unfold runClearFlags at h
  split at h <;> rename_i hp
  · rcases startOperation_cases code q .clrf s with ⟨_, h'⟩ | ⟨hb, h'⟩
    · rw [h'] at h; cases h
    · rw [h'] at h; injection h with h; subst h; simp [hp, hb]
  · injection h with h; simp [hp, h]
  all_goals cases h

/-! ### Opcodes -/

/-- An opcode that selects an operation is that operation's number. -/
theorem op_code_of_ofCode {c : Config} {v : BitVec 4} {o : Op} (h : Op.ofCode c v = some o) : o.code c = v := by
  have := List.find?_some h
  simpa using this

/-- Every operation is in the list of the fifteen. -/
theorem mem_op_all (o : Op) : o ∈ Op.all := by
  cases o <;> decide

/-- The opcode numbers of the record, in the order of the operations. -/
theorem opcodeNumbers_all_eq (c : Config) : c.opc.all = Op.all.map (Op.code c) := rfl

/-- Of a well-formed record's opcode numbers none is 0xF and no two are equal. -/
theorem opcodeNumbers_of_wellFormed {c : Config} (h : c.wellFormed = true) :
    (∀ o : Op, o.code c ≠ 0xF#4) ∧ ∀ o o' : Op, o.code c = o'.code c → o = o' := by
  simp only [Config.wellFormed, Bool.and_eq_true, OpcodeNumbers.wellFormed, decide_eq_true_eq, List.nodup_cons,
    opcodeNumbers_all_eq] at h
  obtain ⟨hf, hn⟩ := h.1.1.1.1.1.1.2
  exact ⟨fun o ho => hf (ho ▸ List.mem_map_of_mem (mem_op_all o)),
    fun o o' ho => List.inj_on_of_nodup_map hn (mem_op_all o) (mem_op_all o') ho⟩

/-- In a well-formed record an operation's number selects it. -/
theorem ofCode_code {c : Config} (h : c.wellFormed = true) (o : Op) : Op.ofCode c (o.code c) = some o := by
  cases ho : Op.ofCode c (o.code c) with
  | some o' => rw [(opcodeNumbers_of_wellFormed h).2 o' o (op_code_of_ofCode ho)]
  | none =>
    have := List.find?_eq_none.mp ho o (mem_op_all o)
    simp at this

/-- In a well-formed record 0xF selects no operation. -/
theorem ofCode_reserved {c : Config} (h : c.wellFormed = true) : Op.ofCode c 0xF#4 = none := by
  refine List.find?_eq_none.mpr fun o _ => ?_
  simpa using (opcodeNumbers_of_wellFormed h).1 o

/-- An instruction is its operation with its operand. -/
theorem withOperand_op (i : Instr) : i.op.withOperand i.operand = i := by
  cases i <;> rfl

/-- The port decodes to an operation exactly where its opcode selects that operation. -/
theorem decodePort_ok_iff {c : Config} {v : BitVec 4} {q : Word} {i : Instr} :
    decodePort c v q = .ok i ↔ Op.ofCode c v = some i.op ∧ q = i.operand := by
  unfold decodePort
  cases h : Op.ofCode c v with
  | none => simp
  | some o =>
    simp only [Except.ok.injEq, Option.some.injEq]
    constructor
    · rintro rfl
      cases o <;> simp [Op.withOperand, Instr.op, Instr.operand]
    · rintro ⟨rfl, rfl⟩
      exact withOperand_op i

/-! ### exec and step -/

/-- The step of an operation that issues a command is the phase table at its catalog entry. -/
theorem exec_of_catalog {i : Instr} {s : State} {e : CatalogEntry} (h : catalog s.cfg i.op = some e) :
    exec i s = runCommand e (i.op.code s.cfg) i.operand s := by
  cases i <;> simp only [catalog, Instr.op, Option.some.injEq, reduceCtorEq] at h <;> subst h <;> rfl

/-- The step of `CLRF`. -/
theorem exec_clrf (q : Word) (s : State) : exec (.clrf q) s = runClearFlags (Op.clrf.code s.cfg) q s := rfl

/-- Every operation but `CLRF` has a catalog entry. -/
theorem catalog_or_clrf (c : Config) (i : Instr) : (∃ e, catalog c i.op = some e) ∨ i = .clrf i.operand := by
  cases i <;> simp [catalog, Instr.op, Instr.operand]

/-- What a step that answers a next state did: it waited, started an operation, or ran a phase of the latched one. -/
theorem step_next {s t : State} (h : step s = .next t) :
    (s.pc = .idle ∧ s.start = false ∧ t = s) ∨
    (s.pc = .idle ∧ s.start = true ∧ ∃ i, decodePort s.cfg s.op s.operand = .ok i ∧ exec i s = .next t) ∨
    (s.pc ≠ .idle ∧ s.start = false ∧ ∃ i, decodePort s.cfg s.lOp s.lOperand = .ok i ∧ exec i s = .next t) := by
  have run : ∀ d, currentOperation s = d → runCurrent s = .next t → ∃ i, d = .ok i ∧ exec i s = .next t := by
    intro d hd hr
    unfold runCurrent at hr
    rw [hd] at hr
    rcases d with ⟨⟨⟩⟩ | i
    · cases hr
    · exact ⟨i, rfl, hr⟩
  unfold step at h
  by_cases hp : s.pc = .idle
  · cases hs : s.start
    · simp only [hp, hs, ↓reduceIte, Bool.false_eq_true] at h
      injection h with h
      exact .inl ⟨hp, rfl, h.symm⟩
    · simp only [hp, hs, ↓reduceIte] at h
      exact .inr (.inl ⟨hp, rfl, run _ (by simp [currentOperation, hp]) h⟩)
  · cases hs : s.start
    · simp only [hp, hs, ↓reduceIte, Bool.false_eq_true] at h
      refine .inr (.inr ⟨hp, rfl, run _ ?_ h⟩)
      unfold currentOperation
      split
      · contradiction
      · rfl
    · simp [hp, hs] at h

/-- A step of a running operation that issues a command is the phase table at its catalog entry. -/
theorem step_of_running {i : Instr} {p : Phase} {s : State} {e : CatalogEntry} (h : Running i p s) (hp : p ≠ .idle)
    (he : catalog s.cfg i.op = some e) : step s = runCommand e (i.op.code s.cfg) i.operand s := by
  obtain ⟨h1, h2, h3, h4⟩ := h
  have hd : decodePort s.cfg s.lOp s.lOperand = .ok i := decodePort_ok_iff.mpr ⟨h3, h4⟩
  have hc : currentOperation s = decodePort s.cfg s.lOp s.lOperand := by
    unfold currentOperation
    split
    · rename_i h5
      exact absurd (h1 ▸ h5) hp
    · rfl
  simp [step, h1 ▸ hp, h2, runCurrent, hc, hd, exec_of_catalog he]

/-- The step of START that `hostIssue` prepares. -/
theorem step_of_issued {i : Instr} {s : State} (h : Issued i s) :
    step s = .next { s with lOp := i.op.code s.cfg, lOperand := i.operand, busy := true, start := false,
                            pc := if i = .clrf i.operand then .clrf else .arg } := by
  obtain ⟨h1, h2, h3, h4, h5⟩ := h
  have hd : decodePort s.cfg s.op s.operand = .ok i := decodePort_ok_iff.mpr ⟨h4, h5⟩
  have hx : step s = exec i s := by simp [step, h1, h3, runCurrent, currentOperation, hd]
  rw [hx]
  rcases catalog_or_clrf s.cfg i with ⟨e, he⟩ | hi
  · have hn : i ≠ .clrf i.operand := by intro hc; rw [hc] at he; cases he
    simp [exec_of_catalog he, runCommand, h1, startOperation, h2, hn]
  · rw [hi, exec_clrf]
    simp [runClearFlags, h1, startOperation, h2, Instr.op, Instr.operand]

/-- What START latches selects the operation again: the state after START runs it. -/
theorem ofCode_of_issued {i : Instr} {s : State} (h : Issued i s) : Op.ofCode s.cfg (i.op.code s.cfg) = some i.op := by
  rw [op_code_of_ofCode h.2.2.2.1]
  exact h.2.2.2.1

/-- One more step of a run. -/
theorem runSteps_succ (n : Nat) {s t : State} (h : step s = .next t) : runSteps (n + 1) s = runSteps n t := by
  simp [runSteps, h]

/-- One more step of a machine's run. -/
theorem core_run_succ (M : Host.Core) (n : Nat) (s : M.State) :
    M.run (n + 1) s =
      (match M.step s with | .next t => M.run n t | .fault r => .fault r | .refused r => .refused r) := rfl

/-- A run in `n` steps is the host's run of the machine. -/
theorem runSteps_eq_core_run (n : Nat) (s : State) : runSteps n s = Host.Core.run Sys2Proof.core n s := by
  induction n generalizing s with
  | zero => rfl
  | succ n ih =>
    refine Eq.trans ?_ (core_run_succ Sys2Proof.core n s).symm
    have hs : Sys2Proof.core.step s = Machine.step s := rfl
    rw [hs, runSteps]
    cases Machine.step s with
    | next t => exact ih t
    | fault r => rfl
    | refused r => rfl

/-- If a step of an operation answers a next state, it was START, the one step of `CLRF`, or one phase of a catalog
operation. -/
theorem exec_next {i : Instr} {s t : State} (h : exec i s = .next t) :
    (s.pc = .idle ∧ s.busy = false ∧ t = { s with
      lOp := i.op.code s.cfg, lOperand := i.operand, busy := true, start := false,
      pc := if i = .clrf i.operand then .clrf else .arg }) ∨
    (i = .clrf i.operand ∧ s.pc = .clrf ∧ t = closeOk (clearStaticFlags s)) ∨
    ∃ e, catalog s.cfg i.op = some e ∧
      ((s.pc = .arg ∧ t = writeArgument (buildArgument e.builder i.operand) s) ∨
      (s.pc = .cmd ∧ t = writeCommand e.idx e.mode s) ∨
      (s.pc = .t0 ∧ t = captureDeadline (entryTimeout s.cfg e i.operand) s) ∨
      (s.pc = .poll ∧ t = pollOnce e.decoder s) ∨
      (s.pc = .clrt ∧ e.decoder.waitsForResponse = true ∧ t = clearHwTimeout s) ∨
      (s.pc = .crc ∧ e.decoder.checksCrc = true ∧ t = inspectCrc e.decoder s) ∨
      (s.pc = .clrc ∧ e.decoder.checksCrc = true ∧ t = clearCrcFail s) ∨
      (s.pc = .echo ∧ e.decoder.readsStatus = true ∧ t = checkEcho s) ∨
      (s.pc = .clrf ∧ e.decoder.waitsForResponse = true ∧ t = clearAfterResponse e.decoder s) ∨
      (s.pc = .resp ∧ e.decoder.readsStatus = true ∧ t = interpretStatus e.decoder s)) := by
  rcases catalog_or_clrf s.cfg i with ⟨e, he⟩ | hi
  · rw [exec_of_catalog he] at h
    rcases runCommand_next h with ⟨h1, h2, h3⟩ | h'
    · have hn : i ≠ .clrf i.operand := by intro hc; rw [hc] at he; cases he
      exact .inl ⟨h1, h2, by simp only [h3, hn, ↓reduceIte]⟩
    · exact .inr (.inr ⟨e, he, h'⟩)
  · have h' : runClearFlags (Op.clrf.code s.cfg) i.operand s = .next t := by rw [hi] at h; exact h
    rcases runClearFlags_next h' with ⟨h1, h2, h3⟩ | h'
    · refine .inl ⟨h1, h2, ?_⟩
      rw [if_pos hi, hi]
      exact h3
    · exact .inr (.inl ⟨hi, h'⟩)

/-- A wait's sample is a hardware timeout only before the deadline, with `CTIMEOUT`, in a response wait. -/
theorem verdict_hwTimeout {d : Decoder} {c : Config} {deadline t sta : Word}
    (h : d.verdict c deadline t sta = .hwTimeout) :
    t < deadline ∧ flagSet c .ctimeout sta = true ∧ d.waitsForResponse = true := by
  have hu : deadlineReached t deadline = false → t < deadline := by
    unfold deadlineReached
    rw [BitVec.ule]
    intro h
    simp at h
    bv_omega
  cases d <;> simp only [Decoder.verdict, basicVerdict, sentVerdict] at h <;> (repeat' split at h) <;>
    simp_all [Decoder.waitsForResponse]

/-- A wait ends well only before the deadline; a response wait only without `CTIMEOUT` and with `CCRCFAIL` or
`CMDREND`. -/
theorem verdict_done {d : Decoder} {c : Config} {deadline t sta : Word} (h : d.verdict c deadline t sta = .done) :
    t < deadline ∧ (d.waitsForResponse = true → flagSet c .ctimeout sta = false ∧
      (flagSet c .ccrcfail sta = true ∨ flagSet c .cmdrend sta = true)) := by
  have hu : deadlineReached t deadline = false → t < deadline := by
    unfold deadlineReached
    rw [BitVec.ule]
    intro h
    simp at h
    bv_omega
  cases d <;> simp only [Decoder.verdict, basicVerdict, sentVerdict] at h <;> (repeat' split at h) <;>
    simp_all [Decoder.waitsForResponse]

/-- The fetch word's descriptor runs next, from any state of this hardware. -/
theorem step_withFetchWord {s : State} {nbits w : Nat} {i : Instr} (hc : s.cfg = hardwareConfig)
    (h : decodeTableWord nbits w = some i) :
    step (s.withFetchWord nbits w) = exec i (s.withFetchWord nbits w) := by
  have hd : decodePort hardwareConfig (descriptorOpcode (tableDescriptor nbits w))
      (descriptorOperand (tableDescriptor nbits w)) = .ok i := by
    unfold decodeTableWord at h
    split at h
    · rename_i hh
      rw [← Option.some.inj h]
      exact hh
    · cases h
  simp [step, runCurrent, currentOperation, State.withFetchWord, placeDescriptor, hc, hd]

end Sys2Proof.Machine
end

