-- ==== Sys2Proof/Laws/PerInstr.lean ====
section
/-! SUPPORT. Statements for all instructions, one lemma a constructor. -/

namespace Sys2Proof.Laws

/-- An instruction is its operation with its operand, and its opcode on this hardware selects its operation (rules R75,
R76). -/
def OperationRoundTrip.Statement (i : Instr) : Prop :=
  Op.ofCode Machine.hardwareConfig (i.op.code Machine.hardwareConfig) = some i.op ∧ i.op.withOperand i.operand = i

theorem OperationRoundTrip.idle (q : Word) : OperationRoundTrip.Statement (.idle q) := ⟨rfl, rfl⟩
theorem OperationRoundTrip.app (q : Word) : OperationRoundTrip.Statement (.app q) := ⟨rfl, rfl⟩
theorem OperationRoundTrip.appOper (q : Word) : OperationRoundTrip.Statement (.appOper q) := ⟨rfl, rfl⟩
theorem OperationRoundTrip.operCond (q : Word) : OperationRoundTrip.Statement (.operCond q) := ⟨rfl, rfl⟩
theorem OperationRoundTrip.sendCid (q : Word) : OperationRoundTrip.Statement (.sendCid q) := ⟨rfl, rfl⟩
theorem OperationRoundTrip.setRelAdd (q : Word) : OperationRoundTrip.Statement (.setRelAdd q) := ⟨rfl, rfl⟩
theorem OperationRoundTrip.sendCsd (q : Word) : OperationRoundTrip.Statement (.sendCsd q) := ⟨rfl, rfl⟩
theorem OperationRoundTrip.selDesel (q : Word) : OperationRoundTrip.Statement (.selDesel q) := ⟨rfl, rfl⟩
theorem OperationRoundTrip.blockLength (q : Word) : OperationRoundTrip.Statement (.blockLength q) := ⟨rfl, rfl⟩
theorem OperationRoundTrip.writeSingleBlock (q : Word) : OperationRoundTrip.Statement (.writeSingleBlock q) := ⟨rfl, rfl⟩
theorem OperationRoundTrip.writeMultiBlock (q : Word) : OperationRoundTrip.Statement (.writeMultiBlock q) := ⟨rfl, rfl⟩
theorem OperationRoundTrip.readSingleBlock (q : Word) : OperationRoundTrip.Statement (.readSingleBlock q) := ⟨rfl, rfl⟩
theorem OperationRoundTrip.readMultiBlock (q : Word) : OperationRoundTrip.Statement (.readMultiBlock q) := ⟨rfl, rfl⟩
theorem OperationRoundTrip.stopTransfer (q : Word) : OperationRoundTrip.Statement (.stopTransfer q) := ⟨rfl, rfl⟩
theorem OperationRoundTrip.clrf (q : Word) : OperationRoundTrip.Statement (.clrf q) := ⟨rfl, rfl⟩

end Sys2Proof.Laws
end

