-- ==== Sys2Proof/Laws/Premises.lean ====
section
/-! SUPPORT. What the premises of rules R66, R234 and R237 give: the hypotheses that statements about whole operations
take, which are weaker. -/

namespace Sys2Proof.Machine

/-- Under the launch premise every static flag is clear. -/
theorem flagSet_of_launchPremise {s : State} (h : LaunchPremise s) (f : StaticFlag) :
    flagSet s.cfg f s.ctrl.sta = false := by
  unfold flagSet
  by_cases hp : s.cfg.layout.sta.position f < 32
  · have hb := congrArg (fun w => w.getLsbD (s.cfg.layout.sta.position f)) h.1
    simpa [getLsbD_staticStaMask s.cfg f hp] using hb
  · exact BitVec.getLsbD_of_ge _ _ (Nat.le_of_not_lt hp)

/-- Three acts after the start of a script the tick source has advanced by the three. -/
theorem after_three_tickCount {e : Environment} {a1 a2 a3 : EnvAct} {rest : List EnvAct}
    (h : e.script = a1 :: a2 :: a3 :: rest) :
    (e.after 3).tickCount = e.tickCount + a1.ticks + a2.ticks + a3.ticks := by
  simp [Environment.after, Environment.advance, Environment.nextAct, h]

/-- Under the clean-entry premise a first sample that comes less than the timeout after the deadline's capture is in
time. -/
theorem sampleInTime_of_cleanEntry {i : Instr} {s : State} {e : CatalogEntry} {a1 a2 a3 a4 : EnvAct}
    {rest : List EnvAct} (h : CleanEntry i s) (he : catalog s.cfg i.op = some e)
    (hs : s.env.script = a1 :: a2 :: a3 :: rest) (ht : a4.ticks < (entryTimeout s.cfg e i.operand).toNat) :
    SampleInTime s (entryTimeout s.cfg e i.operand) a1 a2 a3 a4 :=
  ⟨after_three_tickCount hs ▸ h.2.2 e he, ht⟩

/-- Under the clean-entry premise a response in time is a matter of the acts alone. -/
theorem responseInTime_of_cleanEntry {i : Instr} {s : State} {e : CatalogEntry} {a1 a2 a3 a4 a5 : EnvAct}
    {rest : List EnvAct} (h : CleanEntry i s) (he : catalog s.cfg i.op = some e) (hr : e.timeout = .response)
    (hs : s.env.script = a1 :: a2 :: a3 :: rest) (ht : a4.ticks < s.cfg.tResp.toNat)
    (hf : flagSet s.cfg .cmdrend a5.set = true) (hn : NeverSets s.cfg .ctimeout [a1, a2, a3, a4, a5]) :
    ResponseInTime s a1 a2 a3 a4 a5 := by
  have hT : entryTimeout s.cfg e i.operand = s.cfg.tResp := by simp [entryTimeout, hr]
  exact ⟨hT ▸ sampleInTime_of_cleanEntry h he hs (hT ▸ ht), hf, flagSet_of_launchPremise h.2.1 _, hn⟩

/-- Under the launch premise a good CRC is a matter of the acts alone. -/
theorem noCrcFailure_of_launchPremise {s : State} {acts : List EnvAct} (h : LaunchPremise s)
    (hn : NeverSets s.cfg .ccrcfail acts) : NoCrcFailure s acts :=
  ⟨flagSet_of_launchPremise h _, hn⟩

/-- A fair tick source reaches the deadline of every wait (rule R246: "the tick source eventually reaches or passes every
deadline"). -/
theorem deadline_reached_of_fair {s : State} (h : TickSourceFair s.env) :
    ∃ k, deadlineCount s ≤ (s.env.after k).tickCount :=
  h _

/-- One more act. -/
theorem after_succ (n : Nat) (e : Environment) : e.after (n + 1) = (e.after n).advance := by
  induction n generalizing e with
  | zero => rfl
  | succ n ih => exact ih e.advance

/-- The tick count never decreases. -/
theorem tickCount_le_after (n : Nat) (e : Environment) : e.tickCount ≤ (e.after n).tickCount := by
  induction n with
  | zero => exact Nat.le_refl _
  | succ n ih => rw [after_succ]; simp only [environment_advance_tickCount]; omega

end Sys2Proof.Machine
end

