-- ==== Sys2Proof/Tests/Slice0.lean ====
section
/-! SUPPORT. The tests: expected values are the vectors of spec/95_test_vectors.md (named in each comment) or worked out
by hand from the rules named; the second part shows, for each statement with hypotheses, a state and operands that meet
them. -/

namespace Sys2Proof.Tests

open Sys2Proof Sys2Proof.Machine

/-! ### Helpers -/

/-- An act of the environment in which nothing happens. -/
def quiet : EnvAct :=
  { ticks := 0, set := 0#32, other := none, respCmd := none, resp1 := none, payload := none }

/-- An act that sets STA bits. -/
def sets (m : Word) : EnvAct :=
  { quiet with set := m }

/-- An act that lets the tick source advance. -/
def ticks (n : Nat) : EnvAct :=
  { quiet with ticks := n }

/-- An act that loads the two response registers. -/
def responds (echo cs : Word) : EnvAct :=
  { quiet with respCmd := some echo, resp1 := some cs }

/-- The machine running an operation in a phase, with a script. -/
def running (i : Instr) (p : Phase) (acts : List EnvAct) : State :=
  { State.reset with
    busy := true, pc := p, lOp := i.op.code hardwareConfig, lOperand := i.operand
    env := { tickCount := 100, script := acts, draws := 0 } }

/-- The machine with an operation issued, with a script. -/
def issued (i : Instr) (acts : List EnvAct) : State :=
  { State.reset with
    op := i.op.code hardwareConfig, operand := i.operand, start := true
    env := { tickCount := 100, script := acts, draws := 0 } }

/-- A projection of a next state. -/
def peek {α : Type} (o : Outcome) (f : State → α) : Option α :=
  match o with
  | .next t => some (f t)
  | .fault _ => none
  | .refused _ => none

/-- The refusal, where there is one. -/
def refusal (o : Outcome) : Option Refusal :=
  match o with
  | .next _ => none
  | .fault _ => none
  | .refused r => some r

/-- The fault of a host read, where there is one. -/
def faultOf {α : Type} (o : Host.Outcome α Fault Refusal) : Option Fault :=
  match o with
  | .next _ => none
  | .fault r => some r
  | .refused _ => none

/-- A configuration with LONGID as the decoder of `OPER_COND`. -/
def longIdConfig : Config :=
  { hardwareConfig with operCondDecoder := .longId }

/-- A configuration with LONG as the wait mode of ACMD41. -/
def longAcmd41Config : Config :=
  { hardwareConfig with acmd41WaitResp := .long }

/-! ### Well-formedness: an ill-formed term for each check -/

/-- R87: opcode 0xF. -/
theorem test_wellFormed_refuses_reserved_descriptor :
    descriptorWellFormed 0xF00000000#36 = false ∧ descriptorWellFormed 0xEFFFFFFFF#36 = true := by decide

/-- R93: an operation that uses its operand, without one; an operand of 33 bits. -/
theorem test_wellFormed_refuses_lines :
    Line.wellFormed { op := .app, operand := none } = false ∧
    Line.wellFormed { op := .clrf, operand := none } = true ∧
    Line.wellFormed { op := .app, operand := some 0x100000000 } = false ∧
    Line.wellFormed { op := .app, operand := some 0xFFFFFFFF } = true := by decide

/-- CMD fields that overlap, or lie outside the register. -/
theorem test_wellFormed_refuses_cmd_layouts :
    CmdLayout.wellFormed { hardwareCmdLayout with waitResp := 5 } = false ∧
    CmdLayout.wellFormed { hardwareCmdLayout with cpsmEn := 32 } = false := by decide

/-- Two flags at one position, or a flag outside the register. -/
theorem test_wellFormed_refuses_flag_layouts :
    FlagLayout.wellFormed { hardwareFlagLayout with dbckend := 8 } = false ∧
    FlagLayout.wellFormed { hardwareFlagLayout with dbckend := 32 } = false := by decide

/-- R39: an echo field that does not fit. -/
theorem test_wellFormed_refuses_respcmd_field :
    Layout.respCmdFits { hardwareLayout with respCmd := 27 } = false ∧
    Layout.respCmdFits { hardwareLayout with respCmd := 26 } = true := by decide

/-- R55: an address that is no multiple of 4. -/
theorem test_wellFormed_refuses_addresses :
    RegAddresses.wellFormed { hardwareAddresses with sta := 0x40012C35 } = false := by decide

/-- R9: a width or count that is not the model's. -/
theorem test_wellFormed_refuses_widths :
    Widths.wellFormed { hardwareWidths with regBits := 64 } = false ∧
    Widths.wellFormed { hardwareWidths with nStatic := 11 } = false := by decide

/-- R76, R87: two operations with one opcode; an operation with the reserved one. -/
theorem test_wellFormed_refuses_opcodes :
    OpcodeNumbers.wellFormed { hardwareOpcodes with clrf := 0x0#4 } = false ∧
    OpcodeNumbers.wellFormed { hardwareOpcodes with clrf := 0xF#4 } = false := by decide

/-- R92: two results with one code; a card range that runs into another code. -/
theorem test_wellFormed_refuses_result_codes :
    ResultCodes.wellFormed { hardwareResultCodes with timeout := 0x00#8 } = false ∧
    ResultCodes.wellFormed { hardwareResultCodes with cardBase := 0x41#8 } = false := by decide

/-- The checks together, on the record of rule R9 and on one bad record for each. -/
theorem test_wellFormed_config :
    hardwareConfig.wellFormed = true ∧ longIdConfig.wellFormed = true ∧
    Config.wellFormed { hardwareConfig with layout := { hardwareLayout with
      cmd := { hardwareCmdLayout with waitInt := 10 } } } = false ∧
    Config.wellFormed { hardwareConfig with layout := { hardwareLayout with
      icr := { hardwareFlagLayout with dbckend := 8 } } } = false ∧
    Config.wellFormed { hardwareConfig with layout := { hardwareLayout with
      sta := { hardwareFlagLayout with ccrcfail := 40 } } } = false ∧
    Config.wellFormed { hardwareConfig with layout := { hardwareLayout with respCmd := 30 } } = false ∧
    Config.wellFormed { hardwareConfig with opc := { hardwareOpcodes with app := 0x0#4 } } = false ∧
    Config.wellFormed { hardwareConfig with rc := { hardwareResultCodes with ok := 0x40#8 } } = false ∧
    Config.wellFormed { hardwareConfig with widths := { hardwareWidths with rcaBits := 32 } } = false ∧
    Config.wellFormed { hardwareConfig with addr := { hardwareAddresses with icr := 2 } } = false := by decide

/-! ### Decoding: a word for each constructor, written out from rules R75 and R76 (95_test_vectors.md 3.5, 3.7) -/

theorem test_decode_idle : decode hardwareConfig 0b0000_00000000000000000000001111101000#36 = .ok (.idle 1000#32) := rfl
theorem test_decode_app : decode hardwareConfig 0b0001_00000000000000010000000000000000#36 = .ok (.app 0x10000#32) := rfl
theorem test_decode_appOper : decode hardwareConfig 0b0010_01000000000000000000000000000000#36 = .ok (.appOper 0x40000000#32) := rfl
theorem test_decode_operCond : decode hardwareConfig 0b0011_11011110101011011011111011101111#36 = .ok (.operCond 0xDEADBEEF#32) := rfl
theorem test_decode_sendCid : decode hardwareConfig 0b0100_00000000000000000000000000000000#36 = .ok (.sendCid 0#32) := rfl
theorem test_decode_setRelAdd : decode hardwareConfig 0b0101_00000000000000000000000000000000#36 = .ok (.setRelAdd 0#32) := rfl
theorem test_decode_sendCsd : decode hardwareConfig 0b0110_00000000000000001011001101101000#36 = .ok (.sendCsd 0xB368#32) := rfl
theorem test_decode_selDesel : decode hardwareConfig 0b0111_00000000000000000000000000000001#36 = .ok (.selDesel 1#32) := rfl
theorem test_decode_blockLength : decode hardwareConfig 0b1000_00000000000000000000001000000000#36 = .ok (.blockLength 512#32) := rfl
theorem test_decode_writeSingleBlock :
    decode hardwareConfig 0b1001_00000000000000000000100000000000#36 = .ok (.writeSingleBlock 0x800#32) := rfl
theorem test_decode_writeMultiBlock :
    decode hardwareConfig 0b1010_00000000000000000000000000000000#36 = .ok (.writeMultiBlock 0#32) := rfl
theorem test_decode_readSingleBlock :
    decode hardwareConfig 0b1011_10000000000000000000000000000001#36 = .ok (.readSingleBlock 0x80000001#32) := rfl
theorem test_decode_readMultiBlock :
    decode hardwareConfig 0b1100_00000000000000000000000100000000#36 = .ok (.readMultiBlock 0x100#32) := rfl
theorem test_decode_stopTransfer :
    decode hardwareConfig 0b1101_00010010001101000101011001111000#36 = .ok (.stopTransfer 0x12345678#32) := rfl
theorem test_decode_clrf : decode hardwareConfig 0b1110_00000000000000000000000000000000#36 = .ok (.clrf 0#32) := rfl
theorem test_decode_reserved : decode hardwareConfig 0b1111_00000000000000000000000000000001#36 = .error .reservedOpcode := rfl

/-- The table's numbering: descriptor bit 0 is word bit 0, in 36 or in 40 bits. -/
theorem test_decodeTableWord :
    decodeTableWord 40 0x800000200 = some (.blockLength 512#32) ∧
    decodeTableWord 36 0x60000B368 = some (.sendCsd 0xB368#32) ∧ decodeTableWord 40 0xF00000000 = none := by decide

/-- The fetch word runs as the first operation after reset. -/
theorem test_fetchWord_starts :
    peek (step (State.reset.withFetchWord 40 0x800000200)) (fun t => (t.pc, t.lOp, t.lOperand, t.busy, t.start))
      = some (.arg, 8#4, 512#32, true, false) := by decide

/-! ### Operands, command words, flags, classifiers -/

/-- A1 to A8 and the constants: ARG of each operation. -/
theorem test_arguments :
    [execIdle 7#32, execApp 0x10000#32, execAppOper 1#32, execAppOper 0xFFFFFFFF#32, execOperCond 0xDEADBEEF#32,
      execSendCid 9#32, execSetRelAdd 9#32, execSendCsd 0xABCD0001#32, execSelDesel 0xFFFF#32, execBlockLength 512#32,
      execWriteSingleBlock 0x800#32, execWriteMultiBlock 5#32, execReadSingleBlock 6#32, execReadMultiBlock 0x100#32,
      execStopTransfer 0x12345678#32].map (fun f => peek (f (running (.idle 0#32) .arg [quiet])) fun t => t.ctrl.arg)
    = [0#32, 0x10000#32, 0x80100001#32, 0xFFFFFFFF#32, 0x1AA#32, 0#32, 0#32, 0x10000#32, 0xFFFF0000#32, 512#32,
      0x800#32, 5#32, 6#32, 0x100#32, 0#32].map some := by decide

/-- Section 3.1, "The fourteen catalog CMD words". -/
theorem test_catalog_words :
    [execIdle, execApp, execAppOper, execOperCond, execSendCid, execSetRelAdd, execSendCsd, execSelDesel,
      execBlockLength, execWriteSingleBlock, execWriteMultiBlock, execReadSingleBlock, execReadMultiBlock,
      execStopTransfer].map (fun f => peek (f 0#32 (running (.idle 0#32) .cmd [quiet])) fun t => t.ctrl.cmd)
    = [0x400#32, 0x477#32, 0x469#32, 0x448#32, 0x4C2#32, 0x443#32, 0x4C9#32, 0x447#32, 0x450#32, 0x458#32, 0x459#32,
      0x451#32, 0x452#32, 0x44C#32].map some := by decide

/-- F1a to F1e. -/
theorem test_command_words :
    cmdWord hardwareConfig 8#6 .short false true = 0x448#32 ∧ cmdWord hardwareConfig 63#6 .long true true = 0x5FF#32 ∧
    cmdWord hardwareConfig 0#6 .none false false = 0#32 ∧ cmdWord hardwareConfig 0#6 .none false true = 0x400#32 ∧
    cmdWord longAcmd41Config 41#6 (acmd41Mode longAcmd41Config) false true = 0x4E9#32 := by decide

/-- KE, KE2: STA after `CLRF`. -/
theorem test_clear_flags :
    staticMask hardwareConfig = 0x5FF#32 ∧ clearFlags hardwareConfig 0x5FF#32 0xC5#32 = 0#32 ∧
    clearFlags hardwareConfig 0x5FF#32 0xFFFFFFFF#32 = 0xFFFFFA00#32 ∧
    clearFlags hardwareConfig 0x4#32 0x45#32 = 0x41#32 := by decide

/-- CL1 to CL13. -/
theorem test_classify :
    [0x0#32, 0x900#32, 0x1FF7#32, 0x02000000#32, 0x8#32, 0xFFFFFFFF#32, 0x20400000#32, 0xFDF1E000#32, 0x80000008#32,
      0xC0000000#32, 0x00802000#32, 0x000E0000#32, 0x00020000#32, 0x1AA#32].map (classify hardwareConfig)
    = [none, none, none, none, some (.named .seqError), some (.named .seqError), some (.named .illegalCommand),
      some (.named .eraseReset), some (.named .seqError), some (.named .addrMisaligned), some (.named .eraseReset),
      some .unspecified, some .unspecified, some (.named .seqError)] := by decide

/-- CL14: each mask alone. -/
theorem test_classify_each_mask :
    CardStatusTag.all.map (fun t => classify hardwareConfig (cardStatusMask hardwareConfig t))
      = CardStatusTag.all.map (fun t => some (.named t)) := by decide

/-- R6-1 to R6-6. -/
theorem test_classify_r6 :
    [0x00010203#32, 0x0001C000#32, 0xE000#32, 0x6000#32, 0xAAAA2000#32, 0xFFFF1FFF#32].map (classifyR6 hardwareConfig)
    = [none, some .r6ComCrcFailed, some .r6ComCrcFailed, some .r6IllegalCmd, some .r6GeneralUnknownError, none] := by
  decide

/-- R92: codes at the ends of each range. -/
theorem test_codes :
    [EngineError.timeout, .protocol .cmdRespTimeout, .card (.named .addrOutOfRange), .card .unspecified,
      .card .r6GeneralUnknownError].map (EngineError.code hardwareConfig)
    = [0x01#8, 0x03#8, 0x4F#8, 0x50#8, 0x53#8] := by decide

/-- R134, R248: what a long response leaves in the controller, read by the host after the operation. -/
theorem test_long_payload :
    peek (execSendCid 0#32 (running (.sendCid 0#32) .clrf
      [{ quiet with resp1 := some 1#32, payload := some { resp2 := 2#32, resp3 := 3#32, resp4 := 4#32 } }]))
      (fun t => ([HostReg.resp1, .resp2, .resp3, .resp4].map t.ctrl.hostRead, t.busy))
    = some ([1#32, 2#32, 3#32, 4#32], false) := by decide

/-! ### Steps -/

/-- W2, W3: `now + T` is a Timeout, `now + T - 1` with `CMDREND` is a completion. -/
theorem test_poll_at_the_deadline :
    peek (execAppOper 0#32 { running (.appOper 0#32) .poll [ticks 5000, sets 0x40#32] with lDeadline := 5100#32 })
      (fun t => (t.pc, t.result, t.lT)) = some (.idle, 0x01#8, 5100#32) ∧
    peek (execAppOper 0#32 { running (.appOper 0#32) .poll [ticks 4999, sets 0x40#32] with lDeadline := 5100#32 })
      (fun t => (t.pc, t.busy, t.lT)) = some (.clrf, true, 5099#32) := by decide

/-- W6: `CTIMEOUT` beats `CMDREND` and `CCRCFAIL`, and is the one flag cleared. -/
theorem test_hw_timeout :
    peek (execApp 0#32 { running (.app 0#32) .poll [ticks 1, sets 0x45#32] with lDeadline := 5100#32 })
      (fun t => t.pc) = some .clrt ∧
    peek (execApp 0#32 (running (.app 0#32) .clrt [sets 0x45#32]))
      (fun t => (t.result, t.ctrl.sta)) = some (0x03#8, 0x41#32) := by decide

/-- W7, W8: the fresh read of STA, `CCRCFAIL` alone of it. -/
theorem test_crc_inspection :
    peek (execApp 0#32 (running (.app 0#32) .crc [sets 0x41#32])) (fun t => t.pc) = some .clrc ∧
    peek (execApp 0#32 (running (.app 0#32) .crc [sets 0x44#32])) (fun t => t.pc) = some .echo ∧
    peek (execSendCid 0#32 (running (.sendCid 0#32) .crc [sets 0x44#32])) (fun t => t.pc) = some .clrf := by decide

/-- K8d, K8e: the echoed index, its field alone. -/
theorem test_echo :
    peek (execBlockLength 512#32 { running (.blockLength 512#32) .echo [responds 0x11#32 0#32] with lIdx := 16#6 })
      (fun t => (t.pc, t.result)) = some (.idle, 0x02#8) ∧
    peek (execBlockLength 512#32
      { running (.blockLength 512#32) .echo [responds 0xFFFFFFD0#32 0#32] with lIdx := 16#6 })
      (fun t => t.pc) = some .clrf := by decide

/-- K8b, KB2: the status classified. -/
theorem test_status :
    peek (execBlockLength 512#32 (running (.blockLength 512#32) .resp [responds 0#32 0x20000900#32]))
      (fun t => (t.result, t.busy)) = some (0x4D#8, false) ∧
    peek (execReadSingleBlock 0#32 (running (.readSingleBlock 0#32) .resp [responds 0#32 0x00080000#32]))
      (fun t => t.result) = some 0x50#8 := by decide

/-- K5, K5c: the RCA delivered, or an error and `x[RCA]` unchanged. -/
theorem test_relative_address :
    peek (execSetRelAdd 0#32 (running (.setRelAdd 0#32) .resp [responds 0#32 0x00010203#32]))
      (fun t => (t.result, t.rca, t.rcaValid)) = some (0x00#8, 1#16, true) ∧
    peek (execSetRelAdd 0#32 (running (.setRelAdd 0#32) .resp [responds 0#32 0xAAAA4000#32]))
      (fun t => (t.result, t.rca, t.rcaValid)) = some (0x52#8, 0#16, false) := by decide

/-- K0d, K0e: the idle wait. -/
theorem test_idle_wait :
    peek (execIdle 10#32 { running (.idle 10#32) .poll [ticks 9, sets 0x80#32] with lDeadline := 110#32 })
      (fun t => (t.pc, t.result, t.ctrl.sta)) = some (.idle, 0x00#8, 0x80#32) ∧
    peek (execIdle 0#32 { running (.idle 0#32) .poll [quiet, sets 0x80#32] with lDeadline := 100#32 })
      (fun t => t.result) = some 0x01#8 := by decide

/-- W4: the deadline wraps. -/
theorem test_deadline_wraps :
    peek (execApp 0#32 { running (.app 0#32) .t0 [quiet] with
      env := { tickCount := 0xFFFFF000, script := [quiet], draws := 0 } })
      (fun t => t.lDeadline) = some 0x388#32 := by decide

/-- KE: `CLRF` as an operation. -/
theorem test_clrf :
    peek (execClrf 0#32 { running (.clrf 0#32) .clrf [quiet] with ctrl := { Controller.reset with sta := 0xC5#32 } })
      (fun t => (t.pc, t.result, t.ctrl.sta)) = some (.idle, 0x00#8, 0#32) := by decide

/-- R44, U4, U6, U7: the stops. -/
theorem test_stops :
    faultOf (hostReadResult State.reset) = some .resultUnwritten ∧
    faultOf (hostReadRca State.reset) = some .rcaUnwritten ∧
    refusal (hostStart { State.reset with op := 0xF#4 }) = some .reservedOpcode ∧
    refusal (hostStart (running (.app 0#32) .poll [])) = some .startWhileBusy ∧
    refusal (step { issued (.app 0#32) [] with op := 0xF#4 }) = some .reservedOpcode := by decide

/-! ### Witnesses: for each statement with hypotheses, a state and operands that meet them, clause by clause -/

/-- A word with `CPSMEN = 1` in the default layout. -/
def commandWord : Word :=
  0x477#32

/-- A script with a response in time: quiet until the sample, which shows `CMDREND`; then quiet, the echo, quiet, the
status. -/
def answered (echo cs : Word) : List EnvAct :=
  [quiet, quiet, ticks 1, ticks 1, sets 0x40#32, quiet, responds echo 0#32, quiet, responds 0#32 cs]

theorem witness_DecodeReadsEncodedOperation : hardwareConfig.wellFormed = true := by decide

theorem witness_EncodeRestoresDecodedDescriptor : decode hardwareConfig 0xEFFFFFFFF#36 = .ok (.clrf 0xFFFFFFFF#32) := rfl

theorem witness_OnlyOpcodeFifteenIsReserved :
    hardwareConfig.wellFormed = true ∧ (0xF#4 : BitVec 4) = 0xF#4 ∧ (0xE#4 : BitVec 4) ≠ 0xF#4 := by decide

theorem witness_ProgramLineAssembles :
    Op.format .clrf = .none ∧ Op.format .sendCsd ≠ .none ∧ (2 ^ 32 - 1 : Nat) < 2 ^ 32 ∧
    (2 ^ 32 : Nat) ≤ 2 ^ 32 := by decide

/-- Bit 9 lies between two fields, bit 31 above all of them. -/
theorem witness_CommandWordHoldsItsFields :
    hardwareConfig.wellFormed = true ∧
    ∀ n ∈ [9, 31], (n < hardwareConfig.layout.cmd.cmdIndex ∨ hardwareConfig.layout.cmd.cmdIndex + 6 ≤ n) ∧
      (n < hardwareConfig.layout.cmd.waitResp ∨ hardwareConfig.layout.cmd.waitResp + 2 ≤ n) ∧
      n ≠ hardwareConfig.layout.cmd.waitInt ∧ n ≠ hardwareConfig.layout.cmd.cpsmEn := by decide

theorem witness_StepRunsTheDecodedOperation_start :
    let s := issued (.app 5#32) []
    s.pc = .idle ∧ s.start = true ∧ decode s.cfg (s.op ++ s.operand) = .ok (.app 5#32) := ⟨rfl, rfl, rfl⟩

theorem witness_StepRunsTheDecodedOperation_running :
    let s := running (.app 5#32) .poll []
    s.pc ≠ .idle ∧ s.start = false ∧ decode s.cfg (s.lOp ++ s.lOperand) = .ok (.app 5#32) := ⟨by decide, rfl, rfl⟩

theorem witness_StepWaitsOrRefusesWithoutLegalStart :
    (State.reset.pc = .idle ∧ State.reset.start = false) ∧
    (let s := { issued (.app 0#32) [] with op := 0xF#4 }
     s.pc = .idle ∧ s.start = true ∧ Op.ofCode s.cfg s.op = none ∧ s.cfg.wellFormed = true ∧ s.op = 0xF#4) ∧
    (let s := { running (.app 0#32) .poll [] with start := true }
     s.pc ≠ .idle ∧ s.start = true) := by decide

theorem witness_StartLatchesTheDescriptor :
    ∀ i ∈ everyOp 5#32, (issued i []).pc = .idle ∧ (issued i []).busy = false ∧
      ({ issued i [] with busy := true } : State).pc = .idle := by decide

theorem witness_ArgumentPhaseWritesBuiltArgument :
    ∀ i ∈ commandOps 0x8000FFFF#32, (running i .arg [quiet]).pc = .arg := by decide

theorem witness_RcaArgumentIsTheShiftedLowHalf :
    Instr.sendCsd 0xABCD0001#32 ∈ [Instr.sendCsd 0xABCD0001#32, .selDesel 0xABCD0001#32] ∧
    (running (.sendCsd 0xABCD0001#32) .arg [quiet]).pc = .arg ∧
    (peek (exec (.sendCsd 0xABCD0001#32) (running (.sendCsd 0xABCD0001#32) .arg [quiet])) fun _ => ()) = some () := by
  decide

/-- Every member of the statement's list has the phase, in both records. -/
theorem witness_CommandPhaseWritesCatalogWord :
    (∀ i ∈ commandOps 1#32, (running i .cmd [quiet]).pc = .cmd) ∧
    hardwareConfig.acmd41WaitResp = .short ∧ longAcmd41Config.acmd41WaitResp = .long := by decide

theorem witness_DispatchWritesArgumentThenCommand :
    Instr.app 1#32 ∈ commandOps 1#32 ∧ Running (.app 1#32) .arg (running (.app 1#32) .arg [quiet, quiet]) :=
  ⟨by decide, rfl, rfl, rfl, rfl⟩

theorem witness_DeadlineIsCapturedOnce :
    (∀ i ∈ commandOps 10#32, (running i .t0 [ticks 1]).pc = .t0) ∧
    (running (.app 10#32) .poll [ticks 1, quiet]).pc ≠ .t0 ∧
    (peek (exec (.app 10#32) (running (.app 10#32) .poll [ticks 1, quiet])) fun _ => ()) = some () := by decide

/-- The sample of each clause: at the deadline; one tick before it with `CTIMEOUT`, with `CCRCFAIL`, with `CMDREND`,
with neither. -/
theorem witness_ResponsePollFollowsPrecedence :
    Instr.appOper 1#32 ∈ responseOps 1#32 ∧ Instr.sendCid 1#32 ∈ responseOps 1#32 ∧
    (let m := takeSample { running (.appOper 1#32) .poll [ticks 1, sets 0x45#32] with lDeadline := 101#32 }
     m.lDeadline ≤ m.lT) ∧
    (let m := takeSample { running (.appOper 1#32) .poll [ticks 1, sets 0x45#32] with lDeadline := 102#32 }
     m.lT < m.lDeadline ∧ flagSet m.cfg .ctimeout m.lS = true) ∧
    (let m := takeSample { running (.appOper 1#32) .poll [ticks 1, sets 0x01#32] with lDeadline := 102#32 }
     m.lT < m.lDeadline ∧ flagSet m.cfg .ctimeout m.lS = false ∧ flagSet m.cfg .ccrcfail m.lS = true) ∧
    (let m := takeSample { running (.sendCid 1#32) .poll [ticks 1, sets 0x40#32] with lDeadline := 102#32 }
     m.lT < m.lDeadline ∧ flagSet m.cfg .ctimeout m.lS = false ∧ flagSet m.cfg .cmdrend m.lS = true) ∧
    (let m := takeSample { running (.sendCid 1#32) .poll [ticks 1, sets 0x80#32] with lDeadline := 102#32 }
     m.lT < m.lDeadline ∧ flagSet m.cfg .ctimeout m.lS = false ∧ flagSet m.cfg .ccrcfail m.lS = false ∧
       flagSet m.cfg .cmdrend m.lS = false) := by decide

theorem witness_IdlePollEndsOnCommandSent :
    (let m := takeSample { running (.idle 1#32) .poll [ticks 1, sets 0x80#32] with lDeadline := 101#32 }
     m.lDeadline ≤ m.lT) ∧
    (let m := takeSample { running (.idle 1#32) .poll [ticks 1, sets 0x80#32] with lDeadline := 102#32 }
     m.lT < m.lDeadline ∧ flagSet m.cfg .cmdsent m.lS = true) ∧
    (let m := takeSample { running (.idle 1#32) .poll [ticks 1, sets 0x44#32] with lDeadline := 102#32 }
     m.lT < m.lDeadline ∧ flagSet m.cfg .cmdsent m.lS = false) := by decide

theorem witness_HardwareTimeoutExitClearsOneFlag :
    ∀ i ∈ responseOps 1#32, (running i .clrt [quiet]).pc = .clrt := by decide

theorem witness_CrcInspectionReadsStatusAfresh :
    (∀ i ∈ crcOps 1#32, (running i .crc [sets 0x01#32]).pc = .crc ∧
      flagSet hardwareConfig .ccrcfail (environmentActs (running i .crc [sets 0x01#32])).ctrl.sta = true ∧
      flagSet hardwareConfig .ccrcfail (environmentActs (running i .crc [sets 0x44#32])).ctrl.sta = false) ∧
    Instr.app 1#32 ∈ statusOps 1#32 ∧ Instr.sendCid 1#32 ∉ statusOps 1#32 := by decide

/-- The other disjunct of the two CRC statements: `OPER_COND` with LONGID. -/
theorem witness_CrcInspectionReadsStatusAfresh_longId :
    let s := { running (.operCond 1#32) .crc [quiet] with cfg := longIdConfig }
    s.pc = .crc ∧ s.cfg.operCondDecoder = .longId ∧ Instr.operCond 1#32 ∉ statusOps 1#32 := by decide

theorem witness_CrcFailureExitClearsOneFlag :
    (∀ i ∈ crcOps 1#32, (running i .clrc [quiet]).pc = .clrc) ∧
    (let s := { running (.operCond 1#32) .clrc [quiet] with cfg := longIdConfig }
     s.pc = .clrc ∧ s.cfg.operCondDecoder = .longId) := by decide

/-- Index 63, the largest: a match and a mismatch. -/
theorem witness_EchoCheckComparesTheFieldAlone :
    Instr.app 1#32 ∈ statusOps 1#32 ∧
    (let s := { running (.app 1#32) .echo [responds 0xFFFFFFFF#32 0#32] with lIdx := 63#6 }
     s.pc = .echo ∧ (environmentActs s).ctrl.respCmd.extractLsb' s.cfg.layout.respCmd 6 = s.lIdx) ∧
    (let s := { running (.app 1#32) .echo [responds 0xFFFFFFFE#32 0#32] with lIdx := 63#6 }
     s.pc = .echo ∧ (environmentActs s).ctrl.respCmd.extractLsb' s.cfg.layout.respCmd 6 ≠ s.lIdx) := by decide

theorem witness_DecoderClearsFlagsThenEndsOrReadsStatus :
    (∀ i ∈ [Instr.appOper 1#32, .operCond 1#32, .sendCid 1#32, .sendCsd 1#32], (running i .clrf [quiet]).pc = .clrf) ∧
    ∀ i ∈ statusOps 1#32, (running i .clrf [quiet]).pc = .clrf := by decide

theorem witness_ShortStatusIsReadAndClassified :
    ∀ i ∈ shortStatusOps 1#32, (running i .resp [responds 0#32 0x900#32]).pc = .resp := by decide

/-- K5b, K5c, K5d, K5: a status word for each clause. -/
theorem witness_RelativeAddressIsDeliveredOrAnErrorRaised :
    (running (.setRelAdd 0#32) .resp [responds 0#32 0x1C000#32]).pc = .resp ∧
    0x0001C000#32 &&& hardwareConfig.r6Mask.comCrcFailed ≠ 0#32 ∧
    (0xAAAA4000#32 &&& hardwareConfig.r6Mask.comCrcFailed = 0#32 ∧
      0xAAAA4000#32 &&& hardwareConfig.r6Mask.illegalCmd ≠ 0#32) ∧
    (0xAAAA2000#32 &&& hardwareConfig.r6Mask.comCrcFailed = 0#32 ∧
      0xAAAA2000#32 &&& hardwareConfig.r6Mask.illegalCmd = 0#32 ∧
      0xAAAA2000#32 &&& hardwareConfig.r6Mask.generalUnknownError ≠ 0#32) ∧
    (0x00010203#32 &&& hardwareConfig.r6Mask.comCrcFailed = 0#32 ∧
      0x00010203#32 &&& hardwareConfig.r6Mask.illegalCmd = 0#32 ∧
      0x00010203#32 &&& hardwareConfig.r6Mask.generalUnknownError = 0#32) := by decide

theorem witness_ClearFlagsOperationEndsOk : (running (.clrf 1#32) .clrf [quiet]).pc = .clrf := rfl

/-- A response in time, with a good CRC. -/
theorem answered_in_time (i : Instr) (echo cs : Word) :
    let s := issued i (answered echo cs)
    ResponseInTime s quiet quiet (ticks 1) (ticks 1) (sets 0x40#32) ∧
    NoCrcFailure s [quiet, quiet, ticks 1, ticks 1, sets 0x40#32, quiet] := by
  refine ⟨⟨⟨?_, ?_⟩, ?_, ?_, ?_⟩, ?_, ?_⟩
  · show (100 + 0 + 0 + 1) % 2 ^ 32 + 5000 < 2 ^ 32
    decide
  · show 1 < 5000
    decide
  · show flagSet hardwareConfig .cmdrend 0x40#32 = true
    decide
  · show flagSet hardwareConfig .ctimeout 0#32 = false
    decide
  · show ∀ a ∈ [quiet, quiet, ticks 1, ticks 1, sets 0x40#32], flagSet hardwareConfig .ctimeout a.set = false
    decide
  · show flagSet hardwareConfig .ccrcfail 0#32 = false
    decide
  · show ∀ a ∈ [quiet, quiet, ticks 1, ticks 1, sets 0x40#32, quiet], flagSet hardwareConfig .ccrcfail a.set = false
    decide

/-- What the run statements ask of a state `s` in common, with the script of `answered`. -/
def answeredHypotheses (i : Instr) (echo cs : Word) (s : State) : Prop :=
  Issued i s ∧
  s.env.script = quiet :: quiet :: ticks 1 :: ticks 1 :: sets 0x40#32 :: quiet :: responds echo 0#32 :: quiet ::
    responds 0#32 cs :: [] ∧
  (ResponseInTime s quiet quiet (ticks 1) (ticks 1) (sets 0x40#32) ∧
    NoCrcFailure s [quiet, quiet, ticks 1, ticks 1, sets 0x40#32, quiet]) ∧
  (responds echo 0#32).respCmd = some echo ∧ (responds 0#32 cs).resp1 = some cs

theorem answered_hypotheses (i : Instr) (echo cs : Word) :
    answeredHypotheses i echo cs (issued i (answered echo cs)) :=
  ⟨⟨rfl, rfl, rfl, ofCode_code (c := hardwareConfig) (by decide) _, rfl⟩, rfl, answered_in_time i echo cs, rfl, rfl⟩

/-- `APP 5` with the echo 55 and a status without error. -/
theorem witness_ShortStatusOperationRunsToItsResult :
    answeredHypotheses (.app 5#32) 0x37#32 0x900#32 (issued (.app 5#32) (answered 0x37#32 0x900#32)) ∧
    echoedIndex hardwareConfig 0x37#32 = hardwareConfig.catIndex.app :=
  ⟨answered_hypotheses _ _ _, by decide⟩

/-- `APP 5` with an echo of 54 where 55 was issued. -/
theorem witness_EchoMismatchFailsTheOperation :
    answeredHypotheses (.app 5#32) 0x36#32 0x900#32 (issued (.app 5#32) (answered 0x36#32 0x900#32)) ∧
    Instr.app 5#32 ∈ statusOps 5#32 ∧ catalog hardwareConfig (Instr.app 5#32).op = some (appEntry hardwareConfig) ∧
    echoedIndex hardwareConfig 0x36#32 ≠ (appEntry hardwareConfig).idx :=
  ⟨answered_hypotheses _ _ _, by decide, by decide, by decide⟩

/-- The echo of CMD3 and a status without a disqualifying bit (R6-6). -/
theorem witness_SetRelAddDeliversTheAddress :
    answeredHypotheses (.setRelAdd 5#32) 0x03#32 0xFFFF1FFF#32
      (issued (.setRelAdd 5#32) (answered 0x03#32 0xFFFF1FFF#32)) ∧
    echoedIndex hardwareConfig 0x03#32 = hardwareConfig.catIndex.setRelAdd ∧
    0xFFFF1FFF#32 &&& hardwareConfig.r6Mask.comCrcFailed = 0#32 ∧
    0xFFFF1FFF#32 &&& hardwareConfig.r6Mask.illegalCmd = 0#32 ∧
    0xFFFF1FFF#32 &&& hardwareConfig.r6Mask.generalUnknownError = 0#32 :=
  ⟨answered_hypotheses _ _ _, by decide, by decide, by decide, by decide⟩

/-- The long-ID operations need nothing more; the script's last two acts are their rest. -/
theorem witness_LongIdOperationRunsToOk :
    answeredHypotheses (.sendCid 1#32) 0#32 0#32 (issued (.sendCid 1#32) (answered 0#32 0#32)) ∧
    answeredHypotheses (.sendCsd 1#32) 0#32 0#32 (issued (.sendCsd 1#32) (answered 0#32 0#32)) :=
  ⟨answered_hypotheses _ _ _, answered_hypotheses _ _ _⟩

theorem witness_AppOperRunsToOk :
    (∀ c ∈ [hardwareConfig, longAcmd41Config],
      let s := { issued (.appOper 1#32) (answered 0#32 0#32) with cfg := c }
      ResponseInTime s quiet quiet (ticks 1) (ticks 1) (sets 0x40#32) ∧ Issued (.appOper 1#32) s) ∧
    hardwareConfig.acmd41WaitResp = .short ∧ longAcmd41Config.acmd41WaitResp = .long := by
  refine ⟨?_, rfl, rfl⟩
  intro c hc
  simp only [List.mem_cons, List.not_mem_nil, or_false] at hc
  rcases hc with rfl | rfl
  all_goals exact ⟨(answered_in_time (.appOper 1#32) 0#32 0#32).1, rfl, rfl, rfl, rfl, rfl⟩

/-- `OPER_COND` with a response whose CRC failed, under both decoders. -/
theorem witness_OperCondDecoderDecidesOnCrcFailure :
    ∀ c ∈ [hardwareConfig, longIdConfig],
      let s := { issued (.operCond 1#32) [quiet, quiet, quiet, ticks 1, sets 0x41#32, quiet, quiet] with cfg := c }
      Issued (.operCond 1#32) s ∧ ResponseInTime s quiet quiet quiet (ticks 1) (sets 0x41#32) ∧
      flagSet c .ccrcfail (sets 0x41#32).set = true ∧
      (c.operCondDecoder = .noPayload ∨ c.operCondDecoder = .longId) := by
  intro c hc
  simp only [List.mem_cons, List.not_mem_nil, or_false] at hc
  rcases hc with rfl | rfl
  all_goals refine ⟨⟨rfl, rfl, rfl, rfl, rfl⟩, ⟨⟨?_, ?_⟩, ?_, ?_, ?_⟩, ?_, ?_⟩
  all_goals first
    | decide
    | (show ∀ a ∈ [quiet, quiet, quiet, ticks 1, sets 0x41#32], flagSet hardwareConfig .ctimeout a.set = false; decide)

/-- Both clauses at their boundary: the sample one tick before the deadline, and at it. -/
theorem witness_IdleOperationSucceedsBeforeTheDeadline :
    (let s := issued (.idle 10#32) [quiet, quiet, quiet, ticks 9, sets 0x80#32]
     Issued (.idle 10#32) s ∧ SampleInTime s 10#32 quiet quiet quiet (ticks 9) ∧
       flagSet s.cfg .cmdsent (sets 0x80#32).set = true) ∧
    (let s := issued (.idle 10#32) [quiet, quiet, quiet, ticks 10, sets 0x80#32]
     Issued (.idle 10#32) s ∧ (s.env.tickCount + 0 + 0 + 0) % 2 ^ 32 + (10#32).toNat < 2 ^ 32 ∧
       (10#32).toNat ≤ (ticks 10).ticks ∧ (s.env.tickCount + 0 + 0 + 0) % 2 ^ 32 + (ticks 10).ticks < 2 ^ 32) :=
  ⟨⟨⟨rfl, rfl, rfl, rfl, rfl⟩, by unfold SampleInTime; decide, by decide⟩, ⟨rfl, rfl, rfl, rfl, rfl⟩, by decide,
    by decide, by decide⟩

/-- The last clause too: no command is outstanding after the act. -/
theorem witness_ClearFlagsOperationClearsAllTen :
    Issued (.clrf 1#32) (issued (.clrf 1#32) [quiet]) ∧ (issued (.clrf 1#32) [quiet]).cfg.wellFormed = true ∧
    (environmentActs (issued (.clrf 1#32) [quiet])).ctrl.outstanding = false :=
  ⟨⟨rfl, rfl, rfl, rfl, rfl⟩, by decide, by decide⟩

/-- R237: clean entry, met for every operation. -/
theorem witness_CleanEntry :
    ∀ i ∈ everyOp 10#32, CleanEntry i { issued i [quiet, quiet, ticks 1] with start := false } := by
  intro i hi
  refine ⟨⟨rfl, rfl⟩, ⟨?_, rfl⟩, ?_⟩
  · show 0#32 &&& staticStaMask hardwareConfig = 0#32
    decide
  intro e he
  simp only [everyOp, commandOps, responseOps, crcOps, longIdOps, statusOps, shortStatusOps, List.mem_cons,
    List.cons_append, List.nil_append, List.not_mem_nil, or_false] at hi
  rcases hi with rfl | rfl | rfl | rfl | rfl | rfl | rfl | rfl | rfl | rfl | rfl | rfl | rfl | rfl | rfl
  all_goals cases he
  all_goals decide

/-- Deadline 101, the count at 100, one tick an access. -/
theorem witness_PollLoopEndsByTheDeadline :
    let s := { running (.app 1#32) .poll [ticks 1, ticks 1, ticks 1, ticks 1] with lDeadline := 101#32 }
    Instr.app 1#32 ∈ commandOps 1#32 ∧ Running (.app 1#32) .poll s ∧ s.env.tickCount % 2 ^ 32 ≤ s.lDeadline.toNat ∧
    s.lDeadline.toNat + 2 * 1 ≤ 2 ^ 32 ∧
    2 * (s.lDeadline.toNat - s.env.tickCount % 2 ^ 32 + 1) ≤ s.env.script.length ∧
    ∀ a ∈ s.env.script, 1 ≤ a.ticks ∧ a.ticks ≤ 1 :=
  ⟨by decide, ⟨rfl, rfl, rfl, rfl⟩, by decide, by decide, by decide, by decide⟩

/-- Deadline 101: the tick source stands still for two acts and reaches it with the third. -/
theorem witness_WaitEndsWhereTheTickSourceReachesTheDeadline :
    let s := { running (.app 1#32) .poll [quiet, quiet, ticks 1, quiet] with lDeadline := 101#32 }
    Instr.app 1#32 ∈ commandOps 1#32 ∧ Running (.app 1#32) .poll s ∧ s.env.tickCount % 2 ^ 32 ≤ s.lDeadline.toNat ∧
    s.lDeadline.toNat + 2 * 1 ≤ 2 ^ 32 ∧ deadlineCount s ≤ (s.env.after 3).tickCount ∧
    ∀ j ≤ 3, (s.env.after j).nextAct.ticks ≤ 1 :=
  ⟨by decide, ⟨rfl, rfl, rfl, rfl⟩, by decide, by decide, by decide, by decide⟩

/-- Bit 9 is no static flag of the default layout; a selected flag that is not set again, and one not selected. -/
theorem witness_WriteOneToClear :
    hardwareConfig.wellFormed = true ∧ (∀ f : StaticFlag, hardwareConfig.layout.sta.position f ≠ 9) ∧
    clearsFlag hardwareConfig .cmdrend 0x40#32 = true ∧
    flagSet hardwareConfig .cmdrend
      (memWrite .icr 0x40#32 (running (.clrf 0#32) .clrf [quiet, sets 0x01#32])).env.nextAct.set = false ∧
    clearsFlag hardwareConfig .dbckend 0x40#32 = false :=
  ⟨by decide, fun f => by cases f <;> decide, by decide, by decide, by decide⟩

/-- The next act sets bit 9, which is no static flag. -/
theorem witness_StaticMaskClearsAllTenOnce :
    hardwareConfig.wellFormed = true ∧
    (clearStaticFlags (running (.clrf 0#32) .clrf [quiet, sets 0x200#32])).env.nextAct.set
      &&& staticStaMask hardwareConfig = 0#32 := by decide

/-- `CLRF` clears a `CMDREND` that was set. -/
theorem witness_StaticFlagsLatchUntilCleared :
    let s := { running (.clrf 0#32) .clrf [quiet] with ctrl := { Controller.reset with sta := 0x40#32 } }
    s.cfg.wellFormed = true ∧ flagSet s.cfg .cmdrend s.ctrl.sta = true ∧
    peek (step s) (fun t => flagSet s.cfg .cmdrend t.ctrl.sta) = some false := by decide

theorem witness_CommandWriteMakesACommandOutstanding :
    cpsmEnField hardwareConfig commandWord = true ∧
    ({ State.reset with ctrl := { Controller.reset with outstanding := true } } : State).ctrl.outstanding = true ∧
    (Instr.app 1#32 ∈ commandOps 1#32 ∧ hardwareConfig.wellFormed = true ∧
      (running (.app 1#32) .cmd [quiet]).pc = .cmd ∧
      (peek (exec (.app 1#32) (running (.app 1#32) .cmd [quiet])) fun _ => ()) = some ()) := by decide

theorem witness_ResultCodesAreDistinct :
    hardwareConfig.wellFormed = true ∧ EngineError.timeout.code hardwareConfig = 0x01#8 := by decide

/-- The last sum that does not wrap; a deadline 0 ticks away; the first sum that wraps. -/
theorem witness_DeadlineTestAndItsWrap :
    (0xFFFFFFFE#32 : Word).toNat + (1#32 : Word).toNat < 2 ^ 32 ∧ (7#32 : Word) ≤ 7#32 ∧
    (0xFFFFFFFF#32 : Word) ≤ 0xFFFFFFFF#32 ∧ 2 ^ 32 ≤ (0xFFFFFFFF#32 : Word).toNat + (1#32 : Word).toNat := by decide

/-- A step of the machine that makes an access; the same state serves every statement about all steps. -/
theorem witness_step :
    (peek (step (running (.app 1#32) .poll [ticks 1, sets 0x40#32])) fun t => t.history.length) = some 2 := by decide

theorem witness_EachPhaseChangesItsOwnStateAlone :
    ∀ p ∈ [Phase.arg, .cmd, .t0, .poll, .clrt, .crc, .clrc, .echo, .clrf, .resp],
      (running (.app 1#32) p [quiet, quiet]).pc ≠ .idle ∧
      (peek (exec (.app 1#32) (running (.app 1#32) p [quiet, quiet])) fun _ => ()) = some () := by decide

theorem witness_OperationNeverGoesBack :
    (running (.app 1#32) .crc [quiet]).pc ≠ .idle ∧
    (peek (exec (.app 1#32) (running (.app 1#32) .crc [quiet])) fun t => t.pc) = some .echo := by decide

theorem witness_OperationEndsWithAnAllowedResult :
    (running (.app 1#32) .resp [responds 0#32 0x900#32]).pc ≠ .idle ∧
    (peek (exec (.app 1#32) (running (.app 1#32) .resp [responds 0#32 0x900#32])) fun t => t.pc) = some .idle := by
  decide

theorem witness_ResultIsWrittenAtTheClosingStepAlone :
    let s := running (.clrf 1#32) .clrf [quiet]
    s.pc ≠ .idle ∧ s.resultValid = false ∧
    (peek (step s) fun t => (t.pc, t.resultValid)) = some (.idle, true) := by decide

theorem witness_RcaIsWrittenBySetRelAddAlone :
    let s := running (.setRelAdd 1#32) .resp [responds 0#32 0x00010203#32]
    s.rcaValid = false ∧ (peek (step s) fun t => t.rcaValid) = some true := by decide

theorem witness_RunningOperationIgnoresTheHostPort :
    (running (.app 1#32) .arg [quiet]).pc ≠ .idle ∧
    (peek (step (running (.app 1#32) .arg [quiet])) fun t => t.pc) = some .cmd ∧
    refusal (step { running (.app 1#32) .arg [quiet] with start := true }) = some .startWhileBusy := by decide

theorem witness_UnusedOperandBitsHaveNoInfluence :
    (running (.sendCsd 1#32) .arg [quiet]).pc ≠ .idle ∧
    (0xABCD0001#32 : Word).extractLsb' 0 16 = (0x00000001#32 : Word).extractLsb' 0 16 := by decide

/-- A running engine that is consistent, and its next step. -/
theorem witness_StepKeepsConsistency :
    Consistent { running (.app 1#32) .echo [responds 0x37#32 0#32] with lIdx := 55#6 } ∧
    (peek (step { running (.app 1#32) .echo [responds 0x37#32 0#32] with lIdx := 55#6 }) fun t => t.pc)
      = some .clrf := by
  refine ⟨⟨⟨by decide, by decide⟩, ?_, ⟨by decide, by decide⟩, by intro h; cases h⟩, by decide⟩
  intro _
  refine ⟨.app, rfl, rfl, ?_⟩
  intro e he _
  cases he
  rfl

/-- The consistent state of `witness_StepKeepsConsistency` serves this statement too; here an idle one. -/
theorem witness_ConsistentEngineNeverStops : Consistent (issued (.app 1#32) []) := by
  refine ⟨⟨by decide, by decide⟩, ?_, ⟨by decide, by decide⟩, by intro h; cases h⟩
  intro h
  exact absurd rfl h

/-- Each of the host's moves is there in a consistent state. -/
theorem witness_HostMovesKeepConsistency :
    (peek (hostWriteOp 1#4 State.reset) fun t => t.op) = some 1#4 ∧
    (peek (hostWriteOperand 1#32 State.reset) fun t => t.operand) = some 1#32 ∧
    (peek (hostStart State.reset) fun t => t.start) = some true ∧
    (peek (hostCopyRca { State.reset with rca := 1#16, rcaValid := true }) fun t => t.operand) = some 1#32 ∧
    (peek (hostIssue (.app 1#32) State.reset) fun t => t.operand) = some 1#32 := by decide

/-- A legal history with a command issued, and a phase that goes on to write. -/
theorem witness_StepKeepsTraceLegality :
    let s := { running (.app 1#32) .clrf [quiet] with
      history := [.write .cmd (cmdWord hardwareConfig 55#6 .short false true), .write .arg 1#32] }
    TraceLegal s ∧ (peek (step s) fun t => t.history.length) = some 3 := by
  refine ⟨⟨by decide, by decide, ?_, ?_⟩, by decide⟩
  · intro w hw
    simp only [List.mem_cons, Event.write.injEq, true_and, reduceCtorEq, false_and, List.not_mem_nil, or_false] at hw
    exact ⟨.app, appEntry hardwareConfig, rfl, hw⟩
  · intro w hw
    simp only [List.mem_cons, Event.write.injEq, reduceCtorEq, false_and, List.not_mem_nil, or_false] at hw

theorem witness_HostMovesNeedAnIdleEngine :
    (running (.app 1#32) .poll []).busy = true ∧ State.reset.busy = false ∧ State.reset.resultValid = false ∧
    State.reset.rcaValid = false ∧ ({ State.reset with resultValid := true } : State).resultValid = true ∧
    ({ State.reset with rcaValid := true } : State).rcaValid = true ∧ State.reset.cfg.wellFormed = true ∧
    State.reset.pc = .idle ∧ State.reset.op ≠ 0xF#4 ∧ ({ State.reset with op := 0xF#4 } : State).op = 0xF#4 := by decide

end Sys2Proof.Tests
end

/-! The accesses of one step (rule R14): for each phase of R27's table, once, what it adds to the event history, and
from this that a step makes one access at most, or one sample. -/

namespace Sys2Proof.Machine

/-! ### What each phase adds to the history -/

@[simp] theorem writeArgument_history (arg : Word) (s : State) :
    (writeArgument arg s).history = .write .arg arg :: s.history := rfl

@[simp] theorem writeCommand_history (idx : BitVec 6) (m : WaitMode) (s : State) :
    (writeCommand idx m s).history = .write .cmd (cmdWord s.cfg idx m false true) :: s.history := rfl

@[simp] theorem captureDeadline_history (timeout : Word) (s : State) :
    (captureDeadline timeout s).history = .tick (tickReadValue s) :: s.history := rfl

@[simp] theorem afterWait_history (d : Decoder) (s : State) : (afterWait d s).history = s.history := by
  cases d <;> rfl

/-- A poll iteration makes the accesses of its sample, whatever the verdict. -/
@[simp] theorem pollOnce_history (d : Decoder) (s : State) :
    (pollOnce d s).history =
      .read .sta (readValue .sta (afterTickRead s)) :: .tick (tickReadValue s) :: s.history := by
  rw [← takeSample_history]
  rcases pollOnce_cases d s with ⟨-, h⟩ | ⟨-, h⟩ | ⟨-, h⟩ | ⟨-, h⟩ <;> rw [h]
  · exact raiseError_history _ _
  · exact goto_history _ _
  · exact afterWait_history d _
  · exact goto_history _ _

@[simp] theorem clearHwTimeout_history (s : State) :
    (clearHwTimeout s).history = .write .icr (icrMask s.cfg .ctimeout) :: s.history := rfl

@[simp] theorem inspectCrc_history (d : Decoder) (s : State) :
    (inspectCrc d s).history = .read .sta (readValue .sta s) :: s.history := by
  rcases inspectCrc_cases d s with ⟨-, h⟩ | ⟨-, -, h⟩ | ⟨-, -, h⟩ <;> rw [h, goto_history, afterRead_history]

@[simp] theorem clearCrcFail_history (s : State) :
    (clearCrcFail s).history = .write .icr (icrMask s.cfg .ccrcfail) :: s.history := rfl

/-- The echo check reads `RESPCMD` and makes no other access, not even on a mismatch (rule R132). -/
@[simp] theorem checkEcho_history (s : State) :
    (checkEcho s).history = .read .respCmd (readValue .respCmd s) :: s.history := by
  rcases checkEcho_cases s with ⟨-, h⟩ | ⟨-, h⟩ <;> rw [h]
  · rw [goto_history, afterRead_history]
  · rw [raiseError_history, afterRead_history]

@[simp] theorem clearAfterResponse_history (d : Decoder) (s : State) :
    (clearAfterResponse d s).history = .write .icr (staticMask s.cfg) :: s.history := by
  unfold clearAfterResponse
  split
  · rw [goto_history, clearStaticFlags_history]
  · rw [closeOk_history, clearStaticFlags_history]

@[simp] theorem finishR1_history (s : State) : (finishR1 s).history = s.history := by
  rcases finishR1_cases s with ⟨-, h⟩ | ⟨e, -, h⟩ <;> rw [h]
  · exact closeOk_history s
  · exact raiseError_history _ s

@[simp] theorem finishR6_history (s : State) : (finishR6 s).history = s.history := by
  rcases finishR6_cases s with ⟨-, h⟩ | ⟨e, -, h⟩ <;> rw [h]
  · exact closeWithRca_history _ s
  · exact raiseError_history _ s

/-- The status phase reads `RESP1`; the classification makes no access (rules R133, R157). -/
theorem interpretStatus_history {d : Decoder} (h : d.readsStatus = true) (s : State) :
    (interpretStatus d s).history = .read .resp1 (readValue .resp1 s) :: s.history := by
  rcases interpretStatus_cases d s h with ⟨-, h'⟩ | ⟨-, h'⟩ <;> rw [h']
  · rw [finishR1_history, readStatus_history]
  · rw [finishR6_history, readStatus_history]

/-! ### One access, or one sample -/

/-- From the history `old` to `new` there is no access, one access, or one sample of a wait: a tick read and then a read
of STA (rules R14, R112). -/
def AtMostOneAccess (old new : List Event) : Prop :=
  new = old ∨ (∃ r v, new = .write r v :: old) ∨ (∃ r v, new = .read r v :: old) ∨ (∃ v, new = .tick v :: old) ∨
    (∃ v w, new = .read .sta w :: .tick v :: old)

theorem AtMostOneAccess.none {old new : List Event} (h : new = old) : AtMostOneAccess old new := .inl h

theorem AtMostOneAccess.write {old new : List Event} {r : WriteReg} {v : Word} (h : new = .write r v :: old) :
    AtMostOneAccess old new := .inr (.inl ⟨r, v, h⟩)

theorem AtMostOneAccess.read {old new : List Event} {r : ReadReg} {v : Word} (h : new = .read r v :: old) :
    AtMostOneAccess old new := .inr (.inr (.inl ⟨r, v, h⟩))

theorem AtMostOneAccess.tick {old new : List Event} {v : Word} (h : new = .tick v :: old) :
    AtMostOneAccess old new := .inr (.inr (.inr (.inl ⟨v, h⟩)))

theorem AtMostOneAccess.sample {old new : List Event} {v w : Word} (h : new = .read .sta w :: .tick v :: old) :
    AtMostOneAccess old new := .inr (.inr (.inr (.inr ⟨v, w, h⟩)))

/-- Each phase of each operation makes one access at most, or one sample. -/
theorem exec_atMostOneAccess {i : Instr} {s t : State} (h : exec i s = .next t) :
    AtMostOneAccess s.history t.history := by
  rcases exec_next h with ⟨-, -, rfl⟩ | ⟨-, -, rfl⟩ | ⟨e, -, phase⟩
  case inl => exact .none rfl
  case inr.inl => exact .write (clearStaticFlags_history s)
  case inr.inr =>
    rcases phase with ⟨-, rfl⟩ | ⟨-, rfl⟩ | ⟨-, rfl⟩ | ⟨-, rfl⟩ | ⟨-, -, rfl⟩ | ⟨-, -, rfl⟩ | ⟨-, -, rfl⟩ |
      ⟨-, -, rfl⟩ | ⟨-, -, rfl⟩ | ⟨-, hd, rfl⟩
    · exact .write (writeArgument_history _ s)
    · exact .write (writeCommand_history _ _ s)
    · exact .tick (captureDeadline_history _ s)
    · exact .sample (pollOnce_history _ s)
    · exact .write (clearHwTimeout_history s)
    · exact .read (inspectCrc_history _ s)
    · exact .write (clearCrcFail_history s)
    · exact .read (checkEcho_history s)
    · exact .write (clearAfterResponse_history _ s)
    · exact .read (interpretStatus_history hd s)

/-- Settles O46, by the three things that a step can do: wait, start an operation, or run a phase of the latched one. -/
theorem stepMakesAtMostOneAccess : Obligations.StepMakesAtMostOneAccess := by
  intro s t h
  rcases step_next h with ⟨-, -, rfl⟩ | ⟨-, -, i, -, hi⟩ | ⟨-, -, i, -, hi⟩
  · exact AtMostOneAccess.none rfl
  · exact exec_atMostOneAccess hi
  · exact exec_atMostOneAccess hi

end Sys2Proof.Machine

/-! What a step of a running operation does, in two parts: the accesses and latches of its phase, which lead from `s` to
`m` and leave the rest of the engine alone (`PhaseAccess`), and then the one place where control goes from `m`: on to a
phase of R27's table, or into the closing step (`Ending`). `exec_running` says that every step of a running operation is
such a pair; the invariants below are derived from it. -/

namespace Sys2Proof.Machine

/-! ### The phase table -/

/-- A catalog operation goes through the phases of its decoder. -/
theorem operationHasPhase_of_catalog {c : Config} {o : Op} {e : CatalogEntry} (h : catalog c o = some e) (p : Phase) :
    operationHasPhase c o p = e.decoder.hasPhase p := by
  simp only [operationHasPhase, h]

/-- `DEC_R6` is the decoder of `SET_REL_ADD` alone (rule R171), also where `OPER_COND`'s decoder is a parameter. -/
theorem setRelAdd_of_decoder_r6 {c : Config} {o : Op} {e : CatalogEntry} (h : catalog c o = some e)
    (hd : e.decoder = .r6) : o = .setRelAdd := by
  have hoc : operCondDecoder c ≠ .r6 := by
    unfold operCondDecoder
    cases c.operCondDecoder <;> simp
  cases o <;> simp only [catalog, Option.some.injEq, reduceCtorEq] at h <;> subst h
  case setRelAdd => rfl
  case operCond => exact absurd hd hoc
  all_goals cases hd

/-- A decoder that checks the CRC waits for a response. -/
theorem waitsForResponse_of_checksCrc {d : Decoder} (h : d.checksCrc = true) : d.waitsForResponse = true := by
  revert h
  cases d <;> decide

/-- A decoder that reads a status waits for a response. -/
theorem waitsForResponse_of_readsStatus {d : Decoder} (h : d.readsStatus = true) : d.waitsForResponse = true := by
  revert h
  cases d <;> decide

/-- The phases that R27's table lets a running operation go on to; the closing step is none of them. -/
def Phase.next : Phase → List Phase
  | .idle => []
  | .arg => [.cmd]
  | .cmd => [.t0]
  | .t0 => [.poll]
  | .poll => [.poll, .clrt, .crc, .clrf]
  | .clrt => []
  | .crc => [.clrc, .echo, .clrf]
  | .clrc => []
  | .echo => [.clrf]
  | .clrf => [.resp]
  | .resp => []

/-- Going on never leads back to `PH_IDLE`. -/
theorem Phase.ne_idle_of_mem_next {p p' : Phase} (h : p' ∈ p.next) : p' ≠ .idle := by
  rintro rfl
  cases p <;> simp [Phase.next] at h

/-- `PH_CMD` follows `PH_ARG` alone. -/
theorem Phase.eq_arg_of_cmd_mem_next {p : Phase} (h : Phase.cmd ∈ p.next) : p = .arg := by
  cases p <;> simp [Phase.next] at h ⊢

/-- The phases go up in rank, but for the repeated poll (rules R27, R122). -/
theorem Phase.rank_lt_of_mem_next {p p' : Phase} (h : p' ∈ p.next) : (p = .poll ∧ p' = .poll) ∨ p.rank < p'.rank := by
  cases p <;> cases p' <;> simp [Phase.next, Phase.rank] at h ⊢

/-- A phase after the CMD write comes from `PH_CMD` or from another such phase. -/
theorem Phase.afterCommand_of_mem_next {p p' : Phase} (h : p' ∈ p.next) (ha : p'.afterCommand = true) :
    p = .cmd ∨ p.afterCommand = true := by
  cases p <;> simp [Phase.next, Phase.afterCommand] at h ⊢
  case arg => subst h; cases ha

/-! ### START -/

/-- The state after START: the descriptor of `i` latched, `BUSY = 1`, the strobe taken, in the first phase (rule R26). -/
def started (i : Instr) (s : State) : State :=
  { s with lOp := i.op.code s.cfg, lOperand := i.operand, busy := true, start := false,
           pc := if i = .clrf i.operand then .clrf else .arg }

/-- The first phase is one of the operation, before any command. -/
theorem started_pc_cases (i : Instr) (s : State) :
    (i.op = .clrf ∧ (started i s).pc = .clrf) ∨
    (∃ e, catalog s.cfg i.op = some e) ∧ (started i s).pc = .arg := by
  rcases catalog_or_clrf s.cfg i with ⟨e, he⟩ | hi
  · have hn : i ≠ .clrf i.operand := by intro hc; rw [hc] at he; cases he
    exact .inr ⟨⟨e, he⟩, if_neg hn⟩
  · exact .inl ⟨by rw [hi]; rfl, if_pos hi⟩

/-- At an idle phase every operation's step is START. -/
theorem exec_idle (i : Instr) {s : State} (hp : s.pc = .idle) :
    exec i s = startOperation (i.op.code s.cfg) i.operand (started i s).pc s := by
  rcases catalog_or_clrf s.cfg i with ⟨e, he⟩ | hi
  · have hn : i ≠ .clrf i.operand := by intro hc; rw [hc] at he; cases he
    rw [exec_of_catalog he, runCommand, hp]
    simp only [started, hn, ↓reduceIte]
  · rw [show (started i s).pc = .clrf from if_pos hi, hi, exec_clrf, runClearFlags, hp]
    rfl

/-- START where the engine is not busy. -/
theorem exec_started (i : Instr) {s : State} (hp : s.pc = .idle) (hb : s.busy = false) :
    exec i s = .next (started i s) := by
  rw [exec_idle i hp, startOperation, hb]
  rfl

/-- START where the engine is busy has no move. -/
theorem exec_busy (i : Instr) {s : State} (hp : s.pc = .idle) (hb : s.busy = true) :
    exec i s = .refused .startWhileBusy := by
  rw [exec_idle i hp, startOperation, hb]
  rfl

/-- A step at an idle phase that answers a next state is START. -/
theorem exec_next_of_idle {i : Instr} {s t : State} (hp : s.pc = .idle) (h : exec i s = .next t) :
    s.busy = false ∧ t = started i s := by
  cases hb : s.busy
  · rw [exec_started i hp hb] at h
    injection h with h
    exact ⟨rfl, h.symm⟩
  · rw [exec_busy i hp hb] at h
    cases h

/-! ### The two parts of a step -/

/-- The accesses and latches of the phase that operation `i` is in at `s`, up to the choice of what comes next. -/
inductive PhaseAccess (i : Instr) (s : State) : State → Prop where
  | argument {e : CatalogEntry} (hp : s.pc = .arg) (he : catalog s.cfg i.op = some e) :
      PhaseAccess i s (memWrite .arg (buildArgument e.builder i.operand) s)
  | command {e : CatalogEntry} (hp : s.pc = .cmd) (he : catalog s.cfg i.op = some e) :
      PhaseAccess i s { memWrite .cmd (cmdWord s.cfg e.idx e.mode false true) s with lIdx := e.idx }
  | deadline {e : CatalogEntry} (hp : s.pc = .t0) (he : catalog s.cfg i.op = some e) :
      PhaseAccess i s { afterTickRead s with lDeadline := tickReadValue s + entryTimeout s.cfg e i.operand }
  | sample (hp : s.pc = .poll) : PhaseAccess i s (takeSample s)
  | timeoutFlag (hp : s.pc = .clrt) : PhaseAccess i s (memWrite .icr (icrMask s.cfg .ctimeout) s)
  | crcStatus (hp : s.pc = .crc) : PhaseAccess i s (afterRead .sta s)
  | crcFlag (hp : s.pc = .clrc) : PhaseAccess i s (memWrite .icr (icrMask s.cfg .ccrcfail) s)
  | echo (hp : s.pc = .echo) : PhaseAccess i s (afterRead .respCmd s)
  | allFlags (hp : s.pc = .clrf) : PhaseAccess i s (clearStaticFlags s)
  | status (hp : s.pc = .resp) : PhaseAccess i s (readStatus s)

/-- Where control goes after the accesses of phase `p` of operation `o` have led to `m`: on to a phase that the operation
has, with the sample that this phase asks for, or into one of the three closing steps. -/
inductive Ending (c : Config) (o : Op) (p : Phase) (m : State) : State → Prop where
  | onward (p' : Phase) (follows : p' ∈ p.next) (has : operationHasPhase c o p' = true)
      (sample : SampleConsistent (goto p' m)) : Ending c o p m (goto p' m)
  | succeeded : Ending c o p m (closeOk m)
  | failed (err : EngineError) : Ending c o p m (raiseError err m)
  | delivered (ho : o = .setRelAdd) (hp : p = .resp) : Ending c o p m (closeWithRca (rcaOfStatus m.lCs) m)

/-- Where neither `PH_CLRT` nor `PH_CRC` is entered, nothing is asked of the sample. -/
theorem sampleConsistent_of_ne {s : State} (ht : s.pc ≠ .clrt) (hc : s.pc ≠ .crc) : SampleConsistent s :=
  ⟨fun h => absurd h ht, fun h => absurd h hc⟩

/-- `PH_CLRT` is entered on a sample before the deadline with `CTIMEOUT`. -/
theorem sampleConsistent_clrt {m : State} (hlt : m.lT < m.lDeadline) (hflag : flagSet m.cfg .ctimeout m.lS = true) :
    SampleConsistent (goto .clrt m) :=
  ⟨fun _ => ⟨hlt, hflag⟩, nofun⟩

/-- `PH_CRC` is entered on a sample before the deadline with `CCRCFAIL` or `CMDREND` and without `CTIMEOUT`. -/
theorem sampleConsistent_crc {m : State} (hlt : m.lT < m.lDeadline) (htime : flagSet m.cfg .ctimeout m.lS = false)
    (hdone : flagSet m.cfg .ccrcfail m.lS = true ∨ flagSet m.cfg .cmdrend m.lS = true) :
    SampleConsistent (goto .crc m) :=
  ⟨nofun, fun _ => ⟨hlt, htime, hdone⟩⟩

/-- Going on to a phase that asks nothing of the sample. -/
theorem Ending.goto {c : Config} {o : Op} {p : Phase} {m : State} {e : CatalogEntry} (he : catalog c o = some e)
    (p' : Phase) (follows : p' ∈ p.next) (has : e.decoder.hasPhase p' = true) (ht : p' ≠ .clrt) (hc : p' ≠ .crc) :
    Ending c o p m (Machine.goto p' m) :=
  .onward p' follows (operationHasPhase_of_catalog he p' ▸ has) (sampleConsistent_of_ne ht hc)

/-! ### Each phase is such a pair -/

/-- A wait that ended well ends the idle operation, clears the flags for `DEC_R3`, and goes to the CRC for the others. -/
theorem afterWait_cases (d : Decoder) (s : State) :
    (d = .waitSent ∧ afterWait d s = closeOk s) ∨ (d = .r3 ∧ afterWait d s = goto .clrf s) ∨
    (d.checksCrc = true ∧ afterWait d s = goto .crc s) := by
  cases d <;> simp [afterWait, Decoder.checksCrc]

/-- The poll phase enters `PH_CLRT` and `PH_CRC` on the sample they ask for (rules R112, R114). -/
theorem pollOnce_ending {o : Op} {e : CatalogEntry} {s : State} (he : catalog s.cfg o = some e) :
    Ending s.cfg o .poll (takeSample s) (pollOnce e.decoder s) := by
  rcases pollOnce_cases e.decoder s with ⟨-, h⟩ | ⟨hv, h⟩ | ⟨hv, h⟩ | ⟨-, h⟩ <;> rw [h]
  · exact .failed _
  · obtain ⟨hlt, hflag, hwait⟩ := verdict_hwTimeout hv
    refine .onward .clrt (by decide) ((operationHasPhase_of_catalog he _).trans hwait) ?_
    exact sampleConsistent_clrt (by simpa using hlt) (by simpa using hflag)
  · rcases afterWait_cases e.decoder (takeSample s) with ⟨-, h'⟩ | ⟨hd, h'⟩ | ⟨hd, h'⟩ <;> rw [h']
    · exact .succeeded
    · exact .goto he .clrf (by decide) (by rw [hd]; rfl) nofun nofun
    · obtain ⟨hlt, hflags⟩ := verdict_done hv
      obtain ⟨htime, hdone⟩ := hflags (waitsForResponse_of_checksCrc hd)
      refine .onward .crc (by decide) ((operationHasPhase_of_catalog he _).trans hd) ?_
      exact sampleConsistent_crc (by simpa using hlt) (by simpa using htime) (by simpa using hdone)
  · exact .goto he .poll (by decide) rfl nofun nofun

/-- The CRC inspection goes on to a phase that every decoder with a CRC check, or with a status, has (rule R115). -/
theorem inspectCrc_ending {o : Op} {e : CatalogEntry} {s : State} (he : catalog s.cfg o = some e)
    (hd : e.decoder.checksCrc = true) : Ending s.cfg o .crc (afterRead .sta s) (inspectCrc e.decoder s) := by
  rcases inspectCrc_cases e.decoder s with ⟨-, h⟩ | ⟨-, hs, h⟩ | ⟨-, -, h⟩ <;> rw [h]
  · exact .goto he .clrc (by decide) hd nofun nofun
  · exact .goto he .echo (by decide) hs nofun nofun
  · exact .goto he .clrf (by decide) (waitsForResponse_of_checksCrc hd) nofun nofun

/-- The echo check goes on to the clearing of the flags or raises an error (rule R132). -/
theorem checkEcho_ending {o : Op} {e : CatalogEntry} {s : State} (he : catalog s.cfg o = some e)
    (hd : e.decoder.readsStatus = true) : Ending s.cfg o .echo (afterRead .respCmd s) (checkEcho s) := by
  rcases checkEcho_cases s with ⟨-, h⟩ | ⟨-, h⟩ <;> rw [h]
  · exact .goto he .clrf (by decide) (waitsForResponse_of_readsStatus hd) nofun nofun
  · exact .failed _

/-- The clearing of the flags goes on to the status where the decoder reads one, and else closes. -/
theorem clearAfterResponse_ending {o : Op} {e : CatalogEntry} {s : State} (he : catalog s.cfg o = some e) :
    Ending s.cfg o .clrf (clearStaticFlags s) (clearAfterResponse e.decoder s) := by
  unfold clearAfterResponse
  split
  next hd => exact .goto he .resp (by decide) hd nofun nofun
  next => exact .succeeded

/-- The status phase always closes; the RCA is delivered where `DEC_R6` finds no error (rules R131, R136, R138). -/
theorem interpretStatus_ending {o : Op} {e : CatalogEntry} {s : State} (he : catalog s.cfg o = some e)
    (hd : e.decoder.readsStatus = true) : Ending s.cfg o .resp (readStatus s) (interpretStatus e.decoder s) := by
  rcases interpretStatus_cases e.decoder s hd with ⟨-, h⟩ | ⟨h6, h⟩ <;> rw [h]
  · rcases finishR1_cases (readStatus s) with ⟨-, h'⟩ | ⟨_, -, h'⟩ <;> rw [h']
    · exact .succeeded
    · exact .failed _
  · rcases finishR6_cases (readStatus s) with ⟨-, h'⟩ | ⟨_, -, h'⟩ <;> rw [h']
    · exact .delivered (setRelAdd_of_decoder_r6 he h6) rfl
    · exact .failed _

/-- A step of a running operation makes the accesses of its phase and then goes on or closes. -/
theorem exec_running {i : Instr} {s t : State} (h : exec i s = .next t) (hp : s.pc ≠ .idle) :
    ∃ m, PhaseAccess i s m ∧ Ending s.cfg i.op s.pc m t := by
  rcases exec_next h with ⟨h0, -, -⟩ | ⟨-, h0, rfl⟩ | ⟨e, he, phase⟩
  case inl => exact absurd h0 hp
  case inr.inl => exact ⟨_, .allFlags h0, .succeeded⟩
  case inr.inr =>
    rcases phase with ⟨h0, rfl⟩ | ⟨h0, rfl⟩ | ⟨h0, rfl⟩ | ⟨h0, rfl⟩ | ⟨h0, -, rfl⟩ | ⟨h0, hd, rfl⟩ | ⟨h0, -, rfl⟩ |
      ⟨h0, hd, rfl⟩ | ⟨h0, -, rfl⟩ | ⟨h0, hd, rfl⟩ <;> rw [h0]
    · exact ⟨_, .argument h0 he, .goto he .cmd (by decide) rfl nofun nofun⟩
    · exact ⟨_, .command h0 he, .goto he .t0 (by decide) rfl nofun nofun⟩
    · exact ⟨_, .deadline h0 he, .goto he .poll (by decide) rfl nofun nofun⟩
    · exact ⟨_, .sample h0, pollOnce_ending he⟩
    · exact ⟨_, .timeoutFlag h0, .failed _⟩
    · exact ⟨_, .crcStatus h0, inspectCrc_ending he hd⟩
    · exact ⟨_, .crcFlag h0, .failed _⟩
    · exact ⟨_, .echo h0, checkEcho_ending he hd⟩
    · exact ⟨_, .allFlags h0, clearAfterResponse_ending he⟩
    · exact ⟨_, .status h0, interpretStatus_ending he hd⟩

/-! ### What each part leaves unchanged -/

/-! The accesses of a phase change latches, the controller, the environment and the history alone. -/

section
variable {i : Instr} {s m : State} (h : PhaseAccess i s m)
include h

theorem PhaseAccess.cfg : m.cfg = s.cfg := by cases h <;> simp
theorem PhaseAccess.op : m.op = s.op := by cases h <;> simp
theorem PhaseAccess.operand : m.operand = s.operand := by cases h <;> simp
theorem PhaseAccess.start : m.start = s.start := by cases h <;> simp
theorem PhaseAccess.result : m.result = s.result := by cases h <;> simp
theorem PhaseAccess.resultValid : m.resultValid = s.resultValid := by cases h <;> simp
theorem PhaseAccess.rca : m.rca = s.rca := by cases h <;> simp
theorem PhaseAccess.rcaValid : m.rcaValid = s.rcaValid := by cases h <;> simp
theorem PhaseAccess.busy : m.busy = s.busy := by cases h <;> simp
theorem PhaseAccess.lOp : m.lOp = s.lOp := by cases h <;> simp
theorem PhaseAccess.lOperand : m.lOperand = s.lOperand := by cases h <;> simp

end

/-! What follows the accesses changes the phase, BUSY, `x[RESULT]` and `x[RCA]` alone. -/

section
variable {c : Config} {o : Op} {p : Phase} {m t : State} (h : Ending c o p m t)
include h

theorem Ending.cfg : t.cfg = m.cfg := by cases h <;> simp
theorem Ending.op : t.op = m.op := by cases h <;> simp
theorem Ending.operand : t.operand = m.operand := by cases h <;> simp
theorem Ending.start : t.start = m.start := by cases h <;> simp
theorem Ending.lOp : t.lOp = m.lOp := by cases h <;> simp
theorem Ending.lOperand : t.lOperand = m.lOperand := by cases h <;> simp
theorem Ending.lIdx : t.lIdx = m.lIdx := by cases h <;> simp
theorem Ending.lDeadline : t.lDeadline = m.lDeadline := by cases h <;> simp
theorem Ending.lT : t.lT = m.lT := by cases h <;> simp
theorem Ending.lS : t.lS = m.lS := by cases h <;> simp
theorem Ending.lCs : t.lCs = m.lCs := by cases h <;> simp
theorem Ending.ctrl : t.ctrl = m.ctrl := by cases h <;> simp
theorem Ending.env : t.env = m.env := by cases h <;> simp
theorem Ending.history : t.history = m.history := by cases h <;> simp

end

end Sys2Proof.Machine

/-! The engine's invariants (rules R21 to R27, R92): what every step and every move of the host keeps. -/

namespace Sys2Proof.Machine

/-! ### The frame of a phase's accesses -/

/-- `L_IDX` and CMD belong to `PH_CMD`. -/
theorem PhaseAccess.command_frame {i : Instr} {s m : State} (h : PhaseAccess i s m) (hp : s.pc ≠ .cmd) :
    m.lIdx = s.lIdx ∧ m.ctrl.cmd = s.ctrl.cmd := by
  cases h
  case command h0 _ => exact absurd h0 hp
  all_goals simp

/-- ARG belongs to `PH_ARG`. -/
theorem PhaseAccess.argument_frame {i : Instr} {s m : State} (h : PhaseAccess i s m) (hp : s.pc ≠ .arg) :
    m.ctrl.arg = s.ctrl.arg := by
  cases h
  case argument h0 _ => exact absurd h0 hp
  all_goals simp

/-- `L_DEADLINE` belongs to `PH_T0`. -/
theorem PhaseAccess.deadline_frame {i : Instr} {s m : State} (h : PhaseAccess i s m) (hp : s.pc ≠ .t0) :
    m.lDeadline = s.lDeadline := by
  cases h
  case deadline h0 _ => exact absurd h0 hp
  all_goals simp

/-- `L_T` and `L_S` belong to `PH_POLL`. -/
theorem PhaseAccess.sample_frame {i : Instr} {s m : State} (h : PhaseAccess i s m) (hp : s.pc ≠ .poll) :
    m.lT = s.lT ∧ m.lS = s.lS := by
  cases h
  case sample h0 => exact absurd h0 hp
  all_goals simp

/-- `L_CS` belongs to `PH_RESP`. -/
theorem PhaseAccess.status_frame {i : Instr} {s m : State} (h : PhaseAccess i s m) (hp : s.pc ≠ .resp) :
    m.lCs = s.lCs := by
  cases h
  case status h0 => exact absurd h0 hp
  all_goals simp

/-- The tick source never runs back (rule R58). -/
theorem PhaseAccess.tickCount_le {i : Instr} {s m : State} (h : PhaseAccess i s m) :
    s.env.tickCount ≤ m.env.tickCount := by
  cases h
  case sample => simp only [takeSample_env, environmentActs_env, environment_advance_tickCount]; omega
  all_goals simp

/-- `PH_CMD` latches the index of the operation's catalog entry (rule R101). -/
theorem PhaseAccess.lIdx_of_cmd {i : Instr} {s m : State} {e : CatalogEntry} (h : PhaseAccess i s m)
    (hp : s.pc = .cmd) (he : catalog s.cfg i.op = some e) : m.lIdx = e.idx := by
  cases h
  case command e' _ he' => exact congrArg CatalogEntry.idx (Option.some.inj (he'.symm.trans he))
  all_goals simp_all only [reduceCtorEq]

/-! ### Where control goes -/

/-- The next phase is `PH_IDLE` or one that R27's table has after this one. -/
theorem Ending.pc_cases {c : Config} {o : Op} {p : Phase} {m t : State} (h : Ending c o p m t) :
    t.pc = .idle ∨ t.pc ∈ p.next := by
  cases h
  case onward p' follows _ _ => exact .inr follows
  all_goals exact .inl rfl

/-- A step that goes on leaves BUSY and `x[RESULT]` as they are; one that ends the operation clears BUSY and writes
`RC_OK` or the code of an error (rules R22, R26). -/
theorem Ending.result_cases {c : Config} {o : Op} {p : Phase} {m t : State} (h : Ending c o p m t) :
    (t.pc ≠ .idle ∧ t.busy = m.busy ∧ t.result = m.result ∧ t.resultValid = m.resultValid) ∨
    (t.pc = .idle ∧ t.busy = false ∧ t.resultValid = true ∧
      (t.result = m.cfg.rc.ok ∨ ∃ err : EngineError, t.result = err.code m.cfg)) := by
  cases h with
  | onward p' follows => exact .inl ⟨Phase.ne_idle_of_mem_next follows, rfl, rfl, rfl⟩
  | succeeded => exact .inr ⟨rfl, rfl, rfl, .inl rfl⟩
  | failed err => exact .inr ⟨rfl, rfl, rfl, .inr ⟨err, rfl⟩⟩
  | delivered => exact .inr ⟨rfl, rfl, rfl, .inl rfl⟩

/-- `x[RCA]` is as before, or `SET_REL_ADD` has ended well in `PH_RESP` and delivered it (rules R23, R138). -/
theorem Ending.rca_cases {c : Config} {o : Op} {p : Phase} {m t : State} (h : Ending c o p m t) :
    (t.rca = m.rca ∧ t.rcaValid = m.rcaValid) ∨
    (o = .setRelAdd ∧ p = .resp ∧ t = closeWithRca (rcaOfStatus m.lCs) m) := by
  cases h with
  | onward => exact .inl ⟨rfl, rfl⟩
  | succeeded => exact .inl ⟨rfl, rfl⟩
  | failed => exact .inl ⟨rfl, rfl⟩
  | delivered ho hp => exact .inr ⟨ho, hp, rfl⟩

/-- A phase that control goes on to is one of the operation, entered on the sample it asks for. -/
theorem Ending.onward_of_ne_idle {c : Config} {o : Op} {p : Phase} {m t : State} (h : Ending c o p m t)
    (ht : t.pc ≠ .idle) : t.pc ∈ p.next ∧ operationHasPhase c o t.pc = true ∧ SampleConsistent t := by
  cases h
  case onward p' follows has sample => exact ⟨follows, has, sample⟩
  all_goals exact absurd rfl ht

/-- Settles O47: what the accesses of the phase leave alone, and what the ending then leaves alone. -/
theorem eachPhaseChangesItsOwnStateAlone : Obligations.EachPhaseChangesItsOwnStateAlone := by
  intro i s t h
  by_cases hp : s.pc = .idle
  case pos =>
    obtain ⟨-, rfl⟩ := exec_next_of_idle hp h
    simp [started, hp]
  case neg =>
    obtain ⟨m, ha, he⟩ := exec_running h hp
    refine ⟨he.cfg.trans ha.cfg, he.op.trans ha.op, he.operand.trans ha.operand, ?_, ?_, ?_, ?_, ?_, ?_, ?_, ?_, ?_⟩
    · exact fun _ => ⟨he.start.trans ha.start, he.lOp.trans ha.lOp, he.lOperand.trans ha.lOperand⟩
    · rw [he.lIdx, he.ctrl]; exact ha.command_frame
    · rw [he.ctrl]; exact ha.argument_frame
    · rw [he.lDeadline]; exact ha.deadline_frame
    · rw [he.lT, he.lS]; exact ha.sample_frame
    · intro hr
      rcases he.rca_cases with ⟨hrca, hvalid⟩ | ⟨-, hr', -⟩
      · exact ⟨he.lCs.trans (ha.status_frame hr), hrca.trans ha.rca, hvalid.trans ha.rcaValid⟩
      · exact absurd hr' hr
    · intro ht
      rcases he.result_cases with ⟨-, -, hres, hvalid⟩ | ⟨ht', -⟩
      · exact ⟨hres.trans ha.result, hvalid.trans ha.resultValid⟩
      · exact absurd ht' ht
    · exact fun h0 => absurd h0 hp
    · rw [he.env]; exact ha.tickCount_le

/-- Settles O48, by the ranks of R27's table. -/
theorem operationNeverGoesBack : Obligations.OperationNeverGoesBack := by
  intro i s t h hp
  obtain ⟨m, -, he⟩ := exec_running h hp
  rcases he.pc_cases with h0 | hn
  · exact .inl h0
  · exact .inr (Phase.rank_lt_of_mem_next hn)

/-! ### The steps of the machine -/

/-- What a step of the machine did: it waited, started the operation of the host port, or ran a phase of the latched
one: its accesses and then the ending. -/
theorem step_parts {s t : State} (h : step s = .next t) :
    (s.pc = .idle ∧ t = s) ∨
    (s.pc = .idle ∧ ∃ i : Instr, Op.ofCode s.cfg s.op = some i.op ∧ t = started i s) ∨
    (s.pc ≠ .idle ∧ ∃ (i : Instr) (m : State), Op.ofCode s.cfg s.lOp = some i.op ∧ PhaseAccess i s m ∧
      Ending s.cfg i.op s.pc m t) := by
  rcases step_next h with ⟨hp, -, ht⟩ | ⟨hp, -, i, hd, hi⟩ | ⟨hp, -, i, hd, hi⟩
  · exact .inl ⟨hp, ht⟩
  · exact .inr (.inl ⟨hp, i, (decodePort_ok_iff.mp hd).1, (exec_next_of_idle hp hi).2⟩)
  · obtain ⟨m, ha, he⟩ := exec_running hi hp
    exact .inr (.inr ⟨hp, i, m, (decodePort_ok_iff.mp hd).1, ha, he⟩)

/-- Settles O50: waiting and START leave `x[RESULT]` alone, and so does a running step that does not close. -/
theorem resultIsWrittenAtTheClosingStepAlone : Obligations.ResultIsWrittenAtTheClosingStepAlone := by
  intro s t h
  rcases step_parts h with ⟨hp, rfl⟩ | ⟨hp, i, -, rfl⟩ | ⟨hp, i, m, -, ha, he⟩
  · simp [hp]
  · simp [hp, started]
  · rcases he.result_cases with ⟨ht, -, hres, hvalid⟩ | ⟨ht, hbusy, hvalid, hres⟩
    · exact ⟨by simp [hres, hvalid, ha.result, ha.resultValid], fun _ h0 => absurd h0 ht⟩
    · exact ⟨fun _ => ⟨hp, ht, hbusy⟩, fun _ _ => ⟨hvalid, hbusy, ha.cfg ▸ hres⟩⟩

/-- Settles O51: of the endings of a step only the delivery of `SET_REL_ADD` writes `x[RCA]`. -/
theorem rcaIsWrittenBySetRelAddAlone : Obligations.RcaIsWrittenBySetRelAddAlone := by
  intro s t h hne
  rcases step_parts h with ⟨-, rfl⟩ | ⟨-, i, -, rfl⟩ | ⟨-, i, m, hop, ha, he⟩
  · simp at hne
  · simp [started] at hne
  · rcases he.rca_cases with ⟨hrca, hvalid⟩ | ⟨ho, hp, rfl⟩
    · simp [hrca, hvalid, ha.rca, ha.rcaValid] at hne
    · exact ⟨ho ▸ hop, hp, rfl, congrArg (fun c => c.rc.ok) ha.cfg, rfl, rfl⟩

/-! ### Consistency -/

/-- An idle engine with a legal result is consistent, whatever its port and its latches hold. -/
theorem consistent_of_idle {s : State} (hp : s.pc = .idle) (hb : s.busy = false) (hr : ResultLegal s) :
    Consistent s :=
  ⟨⟨by simp [hp, hb], fun _ => hp⟩, fun h => absurd hp h,
    sampleConsistent_of_ne (by simp [hp]) (by simp [hp]), hr⟩

/-- START leaves a consistent engine: what it latches selects the operation, in its first phase, before any command. -/
theorem consistent_started {s : State} {i : Instr} (hr : ResultLegal s) (hop : Op.ofCode s.cfg s.op = some i.op) :
    Consistent (started i s) := by
  have hl : Op.ofCode s.cfg (i.op.code s.cfg) = some i.op := by rw [op_code_of_ofCode hop]; exact hop
  have hfirst : operationHasPhase s.cfg i.op (started i s).pc = true ∧
      (catalog s.cfg i.op = none ∨ (started i s).pc.afterCommand = false) ∧
      (started i s).pc ∉ [Phase.idle, .clrt, .crc] := by
    rcases started_pc_cases i s with ⟨ho, hpc⟩ | ⟨⟨e, he⟩, hpc⟩ <;> rw [hpc]
    · rw [ho]
      exact ⟨rfl, .inl rfl, by decide⟩
    · exact ⟨operationHasPhase_of_catalog he _, .inr rfl, by decide⟩
  obtain ⟨has, hbefore, hne⟩ := hfirst
  simp only [List.mem_cons, List.not_mem_nil, or_false, not_or] at hne
  obtain ⟨hidle, hclrt, hcrc⟩ := hne
  refine ⟨⟨⟨fun _ => hidle, fun _ => rfl⟩, nofun⟩, fun _ => ⟨i.op, hl, has, ?_⟩, sampleConsistent_of_ne hclrt hcrc, hr⟩
  intro e (he : catalog s.cfg i.op = some e) hafter
  rcases hbefore with h0 | h0
  · rw [h0] at he; cases he
  · rw [h0] at hafter; cases hafter

/-- A running step that goes on keeps the index latched: `PH_CMD` latches it and no later phase changes it. -/
theorem lIdx_of_onward {i : Instr} {s m : State} {e : CatalogEntry} {p' : Phase} (ha : PhaseAccess i s m)
    (he : catalog s.cfg i.op = some e) (hidx : s.pc.afterCommand = true → s.lIdx = e.idx) (follows : p' ∈ s.pc.next)
    (after : p'.afterCommand = true) : m.lIdx = e.idx := by
  rcases Phase.afterCommand_of_mem_next follows after with hp | hp
  · exact ha.lIdx_of_cmd hp he
  · have hne : s.pc ≠ .cmd := by intro h0; rw [h0] at hp; cases hp
    exact (ha.command_frame hne).1.trans (hidx hp)

/-- A running step leads from a consistent engine to a consistent one. -/
theorem consistent_of_running {i : Instr} {s m t : State} (hc : Consistent s) (hp : s.pc ≠ .idle)
    (hop : Op.ofCode s.cfg s.lOp = some i.op) (ha : PhaseAccess i s m) (he : Ending s.cfg i.op s.pc m t) :
    Consistent t := by
  obtain ⟨⟨hbusy, hstart⟩, hphase, -, hlegal⟩ := hc
  have hcfg : t.cfg = s.cfg := he.cfg.trans ha.cfg
  rcases he.result_cases with ⟨ht, hb, hres, hvalid⟩ | ⟨ht, hb, -, hres⟩
  · obtain ⟨follows, has, sample⟩ := he.onward_of_ne_idle ht
    obtain ⟨o, ho, -, hidx⟩ := hphase hp
    obtain rfl : i.op = o := Option.some.inj (hop.symm.trans ho)
    have hbt : t.busy = true := (hb.trans ha.busy).trans (hbusy.mpr hp)
    refine ⟨⟨by simp [hbt, ht], fun h0 => ?_⟩, fun _ => ⟨i.op, ?_, hcfg ▸ has, ?_⟩, sample, ?_⟩
    · rw [he.start, ha.start] at h0
      exact absurd (hstart h0) hp
    · rw [hcfg, he.lOp, ha.lOp]
      exact hop
    · intro e hcat after
      rw [hcfg] at hcat
      rw [he.lIdx]
      exact lIdx_of_onward ha hcat (hidx e hcat) follows after
    · unfold ResultLegal
      rw [hcfg, hres, hvalid, ha.result, ha.resultValid]
      exact hlegal
  · refine consistent_of_idle ht hb fun _ => ?_
    rw [he.cfg]
    exact hres

/-- Settles O54, by the three things that a step of the machine can do. -/
theorem stepKeepsConsistency : Obligations.StepKeepsConsistency := by
  intro s t hc h
  rcases step_parts h with ⟨-, rfl⟩ | ⟨-, i, hop, rfl⟩ | ⟨hp, i, m, hop, ha, he⟩
  · exact hc
  · exact consistent_started hc.2.2.2 hop
  · exact consistent_of_running hc hp hop ha he

end Sys2Proof.Machine

/-! The step by the state it finds the engine in (rules R26, R27, R87), and that a consistent engine never stops. -/

namespace Sys2Proof.Machine

/-! ### The descriptor -/

/-- The halves of a descriptor put together decode as the port does (rule R75). -/
theorem decode_append (c : Config) (v : BitVec 4) (q : Word) : decode c (v ++ q) = decodePort c v q := by
  have hv : descriptorOpcode (v ++ q) = v := BitVec.extractLsb'_append_eq_left
  have hq : descriptorOperand (v ++ q) = q := BitVec.extractLsb'_append_eq_right
  rw [decode, hv, hq]

/-- In a well-formed record every opcode but 0xF selects an operation: sixteen different opcodes are all there are. -/
theorem eq_reserved_of_ofCode_none {c : Config} {v : BitVec 4} (hc : c.wellFormed = true) (h : Op.ofCode c v = none) :
    v = 0xF#4 := by
  have hnd : (0xF#4 :: Op.all.map (Op.code c)).Nodup := by
    obtain ⟨hf, hinj⟩ := opcodeNumbers_of_wellFormed hc
    refine List.nodup_cons.mpr ⟨by simpa using fun o _ => hf o, ?_⟩
    exact List.Nodup.map (fun o o' => hinj o o') (by decide)
  have hall : v ∈ 0xF#4 :: Op.all.map (Op.code c) := by
    have hu : (0xF#4 :: Op.all.map (Op.code c)).toFinset = Finset.univ := by
      apply Finset.eq_univ_of_card
      rw [List.toFinset_card_of_nodup hnd]
      rfl
    exact List.mem_toFinset.mp (hu ▸ Finset.mem_univ v)
  rcases List.mem_cons.mp hall with hv | hv
  · exact hv
  · obtain ⟨o, ho, rfl⟩ := List.mem_map.mp hv
    rw [ofCode_code hc] at h
    cases h

/-! ### The step -/

/-- An idle engine without START waits. -/
theorem step_idle_waits {s : State} (hp : s.pc = .idle) (hs : s.start = false) : step s = .next s := by
  simp [step, hp, hs]

/-- An idle engine with START runs what the host port says. -/
theorem step_idle_start {s : State} (hp : s.pc = .idle) (hs : s.start = true) : step s = runCurrent s := by
  simp [step, hp, hs]

/-- A running engine runs what its latches say. -/
theorem step_running {s : State} (hp : s.pc ≠ .idle) (hs : s.start = false) : step s = runCurrent s := by
  simp [step, hp, hs]

/-- START while an operation runs has no move. -/
theorem step_running_start {s : State} (hp : s.pc ≠ .idle) (hs : s.start = true) :
    step s = .refused .startWhileBusy := by
  simp [step, hp, hs]

/-- An idle engine looks at the host port (rule R26). -/
theorem currentOperation_idle {s : State} (hp : s.pc = .idle) :
    currentOperation s = decodePort s.cfg s.op s.operand := by
  rw [currentOperation, hp]

/-- A running engine looks at its latches (rule R70). -/
theorem currentOperation_running {s : State} (hp : s.pc ≠ .idle) :
    currentOperation s = decodePort s.cfg s.lOp s.lOperand := by
  unfold currentOperation
  split
  next h => exact absurd h hp
  next => rfl

theorem runCurrent_ok {s : State} {i : Instr} (h : currentOperation s = .ok i) : runCurrent s = exec i s := by
  rw [runCurrent, h]

/-- An opcode that has no operation is refused (rule R87). -/
theorem runCurrent_reserved {s : State} (hp : s.pc = .idle) (h : Op.ofCode s.cfg s.op = none) :
    runCurrent s = .refused .reservedOpcode := by
  rw [runCurrent, currentOperation_idle hp, decodePort, h]

/-- Settles O7: in both states the step is that of the descriptor the engine looks at. -/
theorem stepRunsTheDecodedOperation : Obligations.StepRunsTheDecodedOperation := by
  intro s i
  refine ⟨fun hp hs hd => ?_, fun hp hs hd => ?_⟩ <;> rw [decode_append] at hd
  · rw [step_idle_start hp hs, runCurrent_ok ((currentOperation_idle hp).trans hd)]
  · rw [step_running hp hs, runCurrent_ok ((currentOperation_running hp).trans hd)]

/-- Settles O8, by the three states in which no operation runs or starts. -/
theorem stepWaitsOrRefusesWithoutLegalStart : Obligations.StepWaitsOrRefusesWithoutLegalStart := by
  intro s
  refine ⟨step_idle_waits, fun hp hs hop => ?_, step_running_start⟩
  have hnone : Op.ofCode s.cfg s.op = none := by
    rcases hop with h | ⟨hc, hf⟩
    · exact h
    · rw [hf]; exact ofCode_reserved hc
  rw [step_idle_start hp hs, runCurrent_reserved hp hnone]

/-- The operations of `everyOp q` carry the operand `q`. -/
theorem operand_of_mem_everyOp {q : Word} {i : Instr} (h : i ∈ everyOp q) : i.operand = q := by
  simp only [everyOp, commandOps, responseOps, crcOps, longIdOps, statusOps, shortStatusOps, List.cons_append,
    List.nil_append, List.mem_cons, List.not_mem_nil, or_false] at h
  rcases h with rfl | rfl | rfl | rfl | rfl | rfl | rfl | rfl | rfl | rfl | rfl | rfl | rfl | rfl | rfl <;> rfl

/-- Settles O9: at an idle phase the step of every operation is START. -/
theorem startLatchesTheDescriptor : Obligations.StartLatchesTheDescriptor := by
  intro s q i hi hp
  obtain rfl := operand_of_mem_everyOp hi
  exact ⟨exec_started i hp, exec_busy i hp⟩

/-! ### No running operation is refused -/

/-- A running operation in a phase that it has takes a step. -/
theorem exec_answers {i : Instr} {s : State} (hp : s.pc ≠ .idle) (has : operationHasPhase s.cfg i.op s.pc = true) :
    ∃ t, exec i s = .next t := by
  rcases catalog_or_clrf s.cfg i with ⟨e, he⟩ | hi
  · rw [operationHasPhase_of_catalog he] at has
    rw [exec_of_catalog he, runCommand]
    cases hpc : s.pc <;> rw [hpc] at has
    case idle => exact absurd hpc hp
    case arg | cmd | t0 | poll => exact ⟨_, rfl⟩
    case clrt | crc | clrc | echo | clrf | resp =>
      simp only [Decoder.hasPhase] at has
      simp only [has, phaseStep_true]
      exact ⟨_, rfl⟩
  · rw [hi] at has ⊢
    rw [exec_clrf, runClearFlags]
    have hpc : s.pc = .clrf := by simpa [operationHasPhase, catalog, Instr.op, hp] using has
    exact ⟨_, by rw [hpc]⟩

/-- Settles O55: an idle engine waits, starts or refuses an opcode without operation; a running one is in a phase that
its operation has. -/
theorem consistentEngineNeverStops : Obligations.ConsistentEngineNeverStops := by
  rintro s ⟨⟨hbusy, hstart⟩, hphase, -, -⟩
  by_cases hp : s.pc = .idle
  · have hb : s.busy = false := by simpa [hp] using hbusy
    cases hs : s.start
    case false => exact .inl ⟨s, step_idle_waits hp hs⟩
    case true =>
      rw [step_idle_start hp hs]
      cases hop : Op.ofCode s.cfg s.op with
      | none => exact .inr ⟨hp, rfl, rfl, fun hc => eq_reserved_of_ofCode_none hc hop, runCurrent_reserved hp hop⟩
      | some o =>
        have hd : currentOperation s = .ok (o.withOperand s.operand) := by
          rw [currentOperation_idle hp, decodePort, hop]
        exact .inl ⟨_, (runCurrent_ok hd).trans (exec_started _ hp hb)⟩
  · have hs : s.start = false := by
      cases h : s.start
      · rfl
      · exact absurd (hstart h) hp
    obtain ⟨o, hop, has, -⟩ := hphase hp
    have hd : currentOperation s = .ok (o.withOperand s.lOperand) := by
      rw [currentOperation_running hp, decodePort, hop]
    have ho : (o.withOperand s.lOperand).op = o := by cases o <;> rfl
    rw [step_running hp hs, runCurrent_ok hd]
    exact .inl (exec_answers hp (ho.symm ▸ has))

end Sys2Proof.Machine

/-! The history of writes (rules R36, R68, R89): each access of a step keeps it legal. -/

namespace Sys2Proof.Machine

/-- An access that may follow the history `older`: CMD directly after ARG and with a catalog word, ICR with one of the
three masks, and anything else. -/
def EventLegal (c : Config) (older : List Event) : Event → Prop
  | .write .cmd w => endsWithArgument older = true ∧ CatalogWord c w
  | .write .icr w => ClearWord c w
  | _ => True

/-- The part of `TraceLegal` that speaks of the history alone. -/
def HistoryLegal (c : Config) (l : List Event) : Prop :=
  commandsFollowArguments l = true ∧ (∀ w, Event.write .cmd w ∈ l → CatalogWord c w) ∧
  (∀ w, Event.write .icr w ∈ l → ClearWord c w)

/-- A legal history, and in `PH_CMD` the ARG write as its newest event. -/
theorem traceLegal_iff (s : State) :
    TraceLegal s ↔ HistoryLegal s.cfg s.history ∧ (s.pc = .cmd → endsWithArgument s.history = true) := by
  unfold TraceLegal HistoryLegal
  tauto

/-- The order of ARG and CMD after one more access. -/
theorem commandsFollowArguments_cons {c : Config} {older : List Event} {ev : Event} (he : EventLegal c older ev)
    (h : commandsFollowArguments older = true) : commandsFollowArguments (ev :: older) = true := by
  match ev, he with
  | .tick _, _ => exact h
  | .read _ _, _ => exact h
  | .write .arg _, _ => exact h
  | .write .icr _, _ => exact h
  | .write .cmd _, he => simp [commandsFollowArguments, he.1, h]

/-- A legal access keeps the history legal. -/
theorem HistoryLegal.cons {c : Config} {older : List Event} {ev : Event} (h : HistoryLegal c older)
    (he : EventLegal c older ev) : HistoryLegal c (ev :: older) := by
  obtain ⟨horder, hcmd, hicr⟩ := h
  refine ⟨commandsFollowArguments_cons he horder, fun w hw => ?_, fun w hw => ?_⟩
  · rcases List.mem_cons.mp hw with rfl | hw
    · exact he.2
    · exact hcmd w hw
  · rcases List.mem_cons.mp hw with rfl | hw
    · exact he
    · exact hicr w hw

/-- Each phase's accesses are legal: the CMD write comes in `PH_CMD`, whose newest event is the ARG write. -/
theorem PhaseAccess.historyLegal {i : Instr} {s m : State} (h : PhaseAccess i s m) (hs : TraceLegal s) :
    HistoryLegal s.cfg m.history := by
  obtain ⟨hl, hcmd⟩ := (traceLegal_iff s).mp hs
  cases h with
  | argument => exact hl.cons (ev := .write .arg _) trivial
  | @command e hp he => exact hl.cons (ev := .write .cmd _) ⟨hcmd hp, i.op, e, he, rfl⟩
  | deadline => exact hl.cons (ev := .tick _) trivial
  | sample =>
    rw [takeSample_history]
    exact (hl.cons (ev := .tick _) trivial).cons trivial
  | timeoutFlag => exact hl.cons (ev := .write .icr _) (.inr (.inl rfl))
  | crcStatus => exact hl.cons (ev := .read _ _) trivial
  | crcFlag => exact hl.cons (ev := .write .icr _) (.inr (.inr rfl))
  | echo => exact hl.cons (ev := .read _ _) trivial
  | allFlags => exact hl.cons (ev := .write .icr _) (.inl rfl)
  | status => exact hl.cons (ev := .read _ _) trivial

/-- `PH_ARG` leaves the ARG write as the newest event. -/
theorem PhaseAccess.endsWithArgument_of_arg {i : Instr} {s m : State} (h : PhaseAccess i s m) (hp : s.pc = .arg) :
    endsWithArgument m.history = true := by
  cases h
  case argument => rfl
  all_goals simp_all only [reduceCtorEq]

/-- Settles O57: waiting and START make no access; a running step makes legal ones and enters `PH_CMD` from `PH_ARG`
alone. -/
theorem stepKeepsTraceLegality : Obligations.StepKeepsTraceLegality := by
  intro s t hs h
  rcases step_parts h with ⟨-, rfl⟩ | ⟨-, i, -, rfl⟩ | ⟨-, i, m, -, ha, he⟩
  · exact hs
  · refine (traceLegal_iff _).mpr ⟨((traceLegal_iff s).mp hs).1, fun hp => ?_⟩
    rcases started_pc_cases i s with ⟨-, h0⟩ | ⟨-, h0⟩ <;> rw [h0] at hp <;> cases hp
  · rw [traceLegal_iff, he.cfg, ha.cfg, he.history]
    refine ⟨ha.historyLegal hs, fun hp => ha.endsWithArgument_of_arg ?_⟩
    rcases he.pc_cases with h0 | hnext
    · rw [h0] at hp; cases hp
    · exact Phase.eq_arg_of_cmd_mem_next (hp ▸ hnext)

end Sys2Proof.Machine

/-! The outstanding command (rules R43, R62). -/

namespace Sys2Proof.Machine

/-- In a well-formed layout `CPSMEN` lies in the register. -/
theorem cpsmEn_lt_of_wellFormed {c : Config} (h : c.wellFormed = true) : c.layout.cmd.cpsmEn < 32 := by
  simp only [Config.wellFormed, Bool.and_eq_true, CmdLayout.wellFormed, List.all_eq_true, decide_eq_true_eq] at h
  obtain ⟨⟨⟨⟨⟨-, hbits, -⟩, -⟩, -⟩, -⟩, -⟩ := h
  exact hbits _ (by simp)

/-- A command word with `cpsmen = 1` has the bit set. -/
theorem cpsmEnField_cmdWord {c : Config} (h : c.wellFormed = true) (idx : BitVec 6) (m : WaitMode) (waitInt : Bool) :
    cpsmEnField c (cmdWord c idx m waitInt true) = true := by
  simp [cpsmEnField, cmdWord, putField, cpsmEn_lt_of_wellFormed h]

/-- An act of the environment ends a command exactly with one of the four terminal flags. -/
theorem endsCommand_iff (c : Config) (m : Word) :
    endsCommand c m = true ↔ ∃ f ∈ [StaticFlag.cmdsent, .cmdrend, .ccrcfail, .ctimeout], flagSet c f m = true := by
  simp [endsCommand, or_assoc]

/-- `PH_CMD` makes a command outstanding. -/
theorem PhaseAccess.outstanding_of_cmd {i : Instr} {s m : State} (h : PhaseAccess i s m) (hc : s.cfg.wellFormed = true)
    (hp : s.pc = .cmd) : m.ctrl.outstanding = true := by
  cases h
  case command => simp [cpsmEnField_cmdWord hc]
  all_goals simp_all only [reduceCtorEq]

/-- Settles O39, from the write of CMD, the environment's act and the word that `PH_CMD` writes. -/
theorem commandWriteMakesACommandOutstanding : Obligations.CommandWriteMakesACommandOutstanding := by
  refine ⟨fun s w hw => ?_, fun s hs => ?_, fun s t q i _ hc hp h => ?_⟩
  · simp [hw]
  · rw [← endsCommand_iff]
    simp [hs]
  · obtain ⟨m, ha, he⟩ := exec_running h (by simp [hp])
    rw [he.ctrl]
    exact ha.outstanding_of_cmd hc hp

end Sys2Proof.Machine

/-! The host's moves and reset (rules R21, R22, R26, R94, R211, R230, R231, R238). -/

namespace Sys2Proof.Machine

/-! ### Moves that need `BUSY = 0` -/

/-- While `BUSY = 1` a move that needs `BUSY = 0` is refused. -/
theorem hostMove_busy {α : Type} {s : State} (h : s.busy = true) (answer : Host.Outcome α Fault Refusal) :
    hostMove s answer = .refused .hostAccessWhileBusy := by
  rw [hostMove, h]
  rfl

/-- While `BUSY = 0` the move has its answer. -/
theorem hostMove_idle {α : Type} {s : State} (h : s.busy = false) (answer : Host.Outcome α Fault Refusal) :
    hostMove s answer = answer := by
  rw [hostMove, h]
  rfl

/-- A move that answers was made at `BUSY = 0`. -/
theorem hostMove_next {α : Type} {s : State} {answer : Host.Outcome α Fault Refusal} {a : α}
    (h : hostMove s answer = .next a) : s.busy = false ∧ answer = .next a := by
  cases hb : s.busy
  · exact ⟨rfl, hostMove_idle hb answer ▸ h⟩
  · rw [hostMove_busy hb] at h; cases h

/-- A START that answers was made at `BUSY = 0` and sets the strobe. -/
theorem hostStart_next {s t : State} (h : hostStart s = .next t) : s.busy = false ∧ t = { s with start := true } := by
  unfold hostStart at h
  split at h
  · cases h
  next hb =>
    split at h
    · cases h
    · injection h with h
      exact ⟨by simpa using hb, h.symm⟩

/-- A copy of `x[RCA]` that answers was made at `BUSY = 0` and sets the operand. -/
theorem hostCopyRca_next {s t : State} (h : hostCopyRca s = .next t) :
    s.busy = false ∧ t = { s with operand := s.rca.setWidth 32 } := by
  obtain ⟨hb, h⟩ := hostMove_next h
  split at h
  · injection h with h
    exact ⟨hb, h.symm⟩
  · cases h

/-- A consistent engine that is not busy is idle. -/
theorem Consistent.idle_of_not_busy {s : State} (h : Consistent s) (hb : s.busy = false) : s.pc = .idle := by
  obtain ⟨⟨hbusy, -⟩, -⟩ := h
  by_contra hp
  rw [hbusy.mpr hp] at hb
  cases hb

/-- A move at `BUSY = 0` that keeps the phase, BUSY, `x[RESULT]` and the record keeps the engine consistent. -/
theorem Consistent.of_same {s t : State} (h : Consistent s) (hb : s.busy = false) (hpc : t.pc = s.pc)
    (hbusy : t.busy = s.busy) (hcfg : t.cfg = s.cfg) (hres : t.result = s.result)
    (hvalid : t.resultValid = s.resultValid) : Consistent t := by
  refine consistent_of_idle (hpc.trans (h.idle_of_not_busy hb)) (hbusy.trans hb) ?_
  obtain ⟨-, -, -, hlegal⟩ := h
  unfold ResultLegal
  rw [hcfg, hres, hvalid]
  exact hlegal

/-- An engine after reset is consistent: idle, and no result is written. -/
theorem consistent_engineReset (s : State) : Consistent (engineReset s) :=
  consistent_of_idle rfl rfl nofun

/-- Settles O56: each of the host's moves is made at `BUSY = 0` and changes the port, START or the environment alone. -/
theorem hostMovesKeepConsistency : Obligations.HostMovesKeepConsistency := by
  intro s t hc h
  rcases h with ⟨v, h⟩ | ⟨v, h⟩ | h | h | ⟨i, h⟩ | ⟨r, v, h⟩ | rfl
  · obtain ⟨hb, ⟨⟩⟩ := hostMove_next h
    exact hc.of_same hb rfl rfl rfl rfl rfl
  · obtain ⟨hb, ⟨⟩⟩ := hostMove_next h
    exact hc.of_same hb rfl rfl rfl rfl rfl
  · obtain ⟨hb, rfl⟩ := hostStart_next h
    exact hc.of_same hb rfl rfl rfl rfl rfl
  · obtain ⟨hb, rfl⟩ := hostCopyRca_next h
    exact hc.of_same hb rfl rfl rfl rfl rfl
  · obtain ⟨hb, ⟨⟩⟩ := hostMove_next h
    exact hc.of_same hb rfl rfl rfl rfl rfl
  · obtain ⟨hb, ⟨⟩⟩ := hostMove_next h
    exact hc.of_same hb rfl rfl rfl rfl rfl
  · exact consistent_engineReset s

/-- Settles O58: an idle engine without a result is consistent, and an empty history is legal. -/
theorem resetStateIsConsistent : Obligations.ResetStateIsConsistent :=
  ⟨consistent_of_idle rfl rfl nofun, rfl, nofun, nofun, nofun⟩

/-- Settles O59: every field is the one that reset writes. -/
theorem resetLeavesAnIdleEngine : Obligations.ResetLeavesAnIdleEngine :=
  ⟨⟨rfl, rfl, rfl, rfl, rfl, rfl, rfl⟩, rfl, fun _ => ⟨⟨rfl, rfl, rfl, rfl, rfl, rfl, rfl⟩, rfl, rfl, rfl, rfl⟩⟩

/-- While `BUSY = 0` the reads of `x[RESULT]` and `x[RCA]` and the copy give the value, or a fault where none was
written. -/
theorem hostReads_idle {s : State} (hb : s.busy = false) :
    (s.resultValid = true → hostReadResult s = .next s.result) ∧
    (s.resultValid = false → hostReadResult s = .fault .resultUnwritten) ∧
    (s.rcaValid = true → hostReadRca s = .next s.rca ∧ hostCopyRca s = .next { s with operand := 0#16 ++ s.rca }) ∧
    (s.rcaValid = false → hostReadRca s = .fault .rcaUnwritten ∧ hostCopyRca s = .fault .rcaUnwritten) := by
  have hw : s.rca.setWidth 32 = 0#16 ++ s.rca := BitVec.setWidth_eq_append (by decide)
  simp only [hostReadResult, hostReadRca, hostCopyRca, hostMove_idle hb, hw]
  refine ⟨fun h => ?_, fun h => ?_, fun h => ?_, fun h => ?_⟩ <;> simp [h]

/-- While `BUSY = 0`, in a well-formed record, START takes effect unless the opcode is 0xF (rule R87). -/
theorem hostStart_idle {s : State} (hb : s.busy = false) (hc : s.cfg.wellFormed = true) :
    (s.op = 0xF#4 → hostStart s = .refused .reservedOpcode) ∧
    (s.op ≠ 0xF#4 → hostStart s = .next { s with start := true }) := by
  refine ⟨fun h => ?_, fun h => ?_⟩
  · simp [hostStart, hb, h, ofCode_reserved hc]
  · have hop : Op.ofCode s.cfg s.op ≠ none := fun h0 => h (eq_reserved_of_ofCode_none hc h0)
    simp [hostStart, hb, hop]

/-- Settles O60: `BUSY` decides whether a move is refused; the rest is what each move answers while it is 0. -/
theorem hostMovesNeedAnIdleEngine : Obligations.HostMovesNeedAnIdleEngine := by
  intro s v w i r
  refine ⟨rfl, fun hb => ?_, fun hb => ?_⟩
  · have hstart : hostStart s = .refused .startWhileBusy := by rw [hostStart, hb]; rfl
    exact ⟨hostMove_busy hb _, hostMove_busy hb _, hstart, hostMove_busy hb _, hostMove_busy hb _, hostMove_busy hb _,
      hostMove_busy hb _, hostMove_busy hb _⟩
  · obtain ⟨hres, hresFault, hrca, hrcaFault⟩ := hostReads_idle hb
    refine ⟨hostMove_idle hb _, hostMove_idle hb _, hres, hresFault, hrca, hrcaFault, ?_, fun hc => ?_⟩
    · rw [hostReadController, hostMove_idle hb]
      cases r <;> rfl
    · obtain ⟨hreserved, hassigned⟩ := hostStart_idle hb hc
      exact ⟨hreserved, hassigned, fun hp =>
        ⟨_, hostMove_idle hb _, ⟨hp, hb, rfl, ofCode_code hc i.op, rfl⟩, rfl⟩⟩

end Sys2Proof.Machine

/-! The rules of single accesses (20_memory.md): what an access changes, what a write of ICR clears (rule R63), and that
nothing else clears a static flag (rule R61). -/

namespace Sys2Proof.Machine

/-! ### Writes of the controller's registers -/

/-- Each register of the controller after a write (rules R53, R56, R62, R63). -/
theorem controller_write_fields (c : Config) (r : WriteReg) (v : Word) (k : Controller) :
    (k.write c v r).arg = (if r = .arg then v else k.arg) ∧ (k.write c v r).cmd = (if r = .cmd then v else k.cmd) ∧
    (k.write c v r).sta = (if r = .icr then clearFlags c v k.sta else k.sta) ∧
    (k.write c v r).respCmd = k.respCmd ∧ (k.write c v r).resp1 = k.resp1 ∧ (k.write c v r).payload = k.payload ∧
    (k.write c v r).outstanding = (k.outstanding || (decide (r = .cmd) && cpsmEnField c v)) := by
  cases r <;> simp

/-- Settles O45: the state after an access is the one after the environment's act, with the write's effect on the
controller and the access in the history. -/
theorem accessesLeaveTheEngineAlone : Obligations.AccessesLeaveTheEngineAlone := by
  intro s e
  refine ⟨?_, fun r => afterRead_eq r s, afterTickRead_eq s, rfl, rfl, rfl, ?_⟩
  · intro r v k
    exact ⟨rfl, controller_write_fields s.cfg r v e.ctrl⟩
  · exact Nat.le_add_right _ _

/-! ### Write-one-to-clear -/

/-- In a well-formed record the flags have different positions in STA, all in the register (rule R35). -/
theorem staLayout_of_wellFormed {c : Config} (h : c.wellFormed = true) : c.layout.sta.wellFormed = true := by
  simp only [Config.wellFormed, Bool.and_eq_true] at h
  obtain ⟨⟨⟨⟨-, hsta⟩, -⟩, -⟩, -⟩ := h
  exact hsta

/-- In a well-formed layout the STA bit of a flag is selected exactly by the flag's own clear bit. -/
theorem flagSet_selectedFlags {c : Config} (h : c.wellFormed = true) (f : StaticFlag) (m : Word) :
    flagSet c f (selectedFlags c m) = clearsFlag c f m := by
  have hlayout := staLayout_of_wellFormed h
  rw [flagSet, getLsbD_selectedFlags, Bool.eq_iff_iff, List.any_eq_true]
  constructor
  · rintro ⟨g, -, hg⟩
    simp only [staMask, getLsbD_bitMask, Bool.and_eq_true, decide_eq_true_eq] at hg
    obtain ⟨hclear, hpos, -⟩ := hg
    rwa [flagLayout_position_injective hlayout hpos]
  · intro hclear
    exact ⟨f, mem_staticFlag_all f, by simp [staMask, hclear, flagLayout_position_lt hlayout f]⟩

/-- A write of ICR clears the flags it selects and leaves the others (rule R63). -/
theorem flagSet_clearFlags {c : Config} (h : c.wellFormed = true) (f : StaticFlag) (m sta : Word) :
    flagSet c f (clearFlags c m sta) = (flagSet c f sta && !clearsFlag c f m) := by
  have hpos := flagLayout_position_lt (staLayout_of_wellFormed h) f
  rw [← flagSet_selectedFlags h f m]
  simp [flagSet, clearFlags, hpos]

/-- A bit of STA that is no static flag keeps its value through a write of ICR (rule R63). -/
theorem getLsbD_clearFlags_of_ne {c : Config} {n : Nat} (hn : ∀ f : StaticFlag, c.layout.sta.position f ≠ n)
    (m sta : Word) : (clearFlags c m sta).getLsbD n = sta.getLsbD n := by
  have hsel : (selectedFlags c m).getLsbD n = false := by
    rw [getLsbD_selectedFlags, List.any_eq_false]
    intro f _
    simp [staMask, (hn f).symm]
  rw [clearFlags, BitVec.getLsbD_and, BitVec.getLsbD_not, hsel]
  by_cases hlt : n < 32
  · simp [hlt]
  · simp [BitVec.getLsbD_of_ge sta n (Nat.le_of_not_lt hlt)]

/-- Settles O36: the write clears the selected flags, and the act before the next read only sets flags. -/
theorem writeOneToClear : Obligations.WriteOneToClear := by
  refine ⟨fun c m sta h => ⟨fun f => flagSet_clearFlags h f m sta, fun n hn => getLsbD_clearFlags_of_ne hn m sta⟩,
    fun s m f h => ⟨fun hclear hset => ?_, fun hkeep => ?_⟩⟩
  · simp only [readValue_eq, environmentActs_ctrl, controller_read_sta, controller_act_sta, memWrite_cfg,
      flagSet_actOnSta, hset, memWrite_ctrl, controller_write_icr_sta, flagSet_clearFlags h, hclear]
    simp
  · rw [memWrite_ctrl, controller_write_icr_sta, flagSet_clearFlags h, hkeep]
    simp

/-! ### Static flags latch -/

/-- An act of the environment clears no static flag (rule R61). -/
theorem flagSet_environmentActs {s : State} {f : StaticFlag} (h : flagSet s.cfg f s.ctrl.sta = true) :
    flagSet s.cfg f (environmentActs s).ctrl.sta = true := by
  simp [flagSet_actOnSta, h]

/-- A write of ICR after which a flag that was set is clear has selected it. -/
theorem clearsFlag_of_cleared {s : State} {f : StaticFlag} {v : Word} (hc : s.cfg.wellFormed = true)
    (h : flagSet s.cfg f s.ctrl.sta = true) (h' : flagSet s.cfg f (memWrite .icr v s).ctrl.sta = false) :
    clearsFlag s.cfg f v = true := by
  simpa only [memWrite_ctrl, controller_write_icr_sta, flagSet_clearFlags hc, flagSet_environmentActs h, Bool.true_and,
    Bool.not_eq_false'] using h'

/-- The accesses of a phase that clear a flag are a write of ICR that selects it. -/
theorem PhaseAccess.write_icr_of_cleared {i : Instr} {s m : State} {f : StaticFlag} (ha : PhaseAccess i s m)
    (hc : s.cfg.wellFormed = true) (h : flagSet s.cfg f s.ctrl.sta = true)
    (h' : flagSet s.cfg f m.ctrl.sta = false) :
    ∃ v, m.history = .write .icr v :: s.history ∧ clearsFlag s.cfg f v = true := by
  cases ha
  case timeoutFlag | crcFlag | allFlags => exact ⟨_, rfl, clearsFlag_of_cleared hc h h'⟩
  all_goals simp [flagSet_actOnSta, h] at h'

/-- Settles O38: waiting and START make no access; of a running step the accesses of its phase alone change STA. -/
theorem staticFlagsLatchUntilCleared : Obligations.StaticFlagsLatchUntilCleared := by
  intro s t f hc hstep h h'
  rcases step_parts hstep with ⟨-, rfl⟩ | ⟨-, i, -, rfl⟩ | ⟨-, i, m, -, ha, he⟩
  · exact absurd (h.symm.trans h') (by decide)
  · exact absurd (h.symm.trans h') (by decide)
  · rw [he.ctrl] at h'
    rw [he.history]
    exact ha.write_icr_of_cleared hc h h'

end Sys2Proof.Machine

/-! DISPATCH and the poll loop, step by step: what a running operation that issues a command does in `PH_ARG`, `PH_CMD`
and `PH_POLL` (rules R68, R103, R112), and that a wait ends where the tick source reaches the deadline (rules R66,
R246). -/

namespace Sys2Proof.Machine

/-- The operations of `commandOps` have an entry in the catalog, whatever the record is (rule R170). -/
theorem catalog_of_mem_commandOps {q : Word} {i : Instr} (h : i ∈ commandOps q) (c : Config) :
    ∃ e, catalog c i.op = some e := by
  rcases catalog_or_clrf c i with he | hi
  · exact he
  · rw [hi] at h
    simp [commandOps, responseOps, crcOps, longIdOps, statusOps, shortStatusOps] at h

/-! ### DISPATCH -/

/-- A step that keeps START, the latches and the record keeps the operation running, in the phase it goes on to. -/
theorem Running.of_same {i : Instr} {p p' : Phase} {s t : State} (h : Running i p s) (hpc : t.pc = p')
    (hstart : t.start = s.start) (hcfg : t.cfg = s.cfg) (hop : t.lOp = s.lOp) (hq : t.lOperand = s.lOperand) :
    Running i p' t := by
  obtain ⟨-, hs, ho, hl⟩ := h
  exact ⟨hpc, hstart.trans hs, by rw [hcfg, hop]; exact ho, hq.trans hl⟩

/-- In `PH_ARG` the step writes ARG. -/
theorem step_arg {i : Instr} {s : State} {e : CatalogEntry} (h : Running i .arg s) (he : catalog s.cfg i.op = some e) :
    step s = .next (writeArgument (buildArgument e.builder i.operand) s) := by
  rw [step_of_running h nofun he, runCommand, h.1]

/-- In `PH_CMD` the step writes CMD. -/
theorem step_cmd {i : Instr} {s : State} {e : CatalogEntry} (h : Running i .cmd s) (he : catalog s.cfg i.op = some e) :
    step s = .next (writeCommand e.idx e.mode s) := by
  rw [step_of_running h nofun he, runCommand, h.1]

/-- Settles O13: the step of `PH_ARG`, which leaves the operation running in `PH_CMD`, and the step of `PH_CMD`. -/
theorem dispatchWritesArgumentThenCommand : Obligations.DispatchWritesArgumentThenCommand := by
  intro s q i hi h
  obtain ⟨e, he⟩ := catalog_of_mem_commandOps hi s.cfg
  have hcmd : Running i .cmd (writeArgument (buildArgument e.builder i.operand) s) := h.of_same rfl rfl rfl rfl rfl
  have hrun := (runSteps_succ 1 (step_arg h he)).trans (runSteps_succ 0 (step_cmd hcmd he))
  exact ⟨_, _, _, hrun, rfl, rfl, rfl, rfl⟩

/-! ### The poll loop -/

/-- In `PH_POLL` the step takes a sample. -/
theorem step_poll {i : Instr} {s : State} {e : CatalogEntry} (h : Running i .poll s)
    (he : catalog s.cfg i.op = some e) : step s = .next (pollOnce e.decoder s) := by
  rw [step_of_running h nofun he, runCommand, h.1]

/-- Every wait samples again only before the deadline (rules R112, R114, R118). -/
theorem verdict_again {d : Decoder} {c : Config} {deadline t sta : Word} (h : d.verdict c deadline t sta = .again) :
    t.toNat < deadline.toNat := by
  by_contra hle
  have hreached : deadlineReached t deadline = true := by simpa [deadlineReached, BitVec.ule] using hle
  cases d <;> simp [Decoder.verdict, basicVerdict, sentVerdict, hreached] at h

/-- A poll iteration that stays in `PH_POLL` has changed nothing but the sample, which was before the deadline. -/
theorem pollOnce_stays {d : Decoder} {s : State} (h : (pollOnce d s).pc = .poll) :
    pollOnce d s = goto .poll (takeSample s) ∧ (tickReadValue s).toNat < s.lDeadline.toNat := by
  rcases pollOnce_cases d s with ⟨-, h'⟩ | ⟨-, h'⟩ | ⟨-, h'⟩ | ⟨hv, h'⟩
  case inr.inr.inr => exact ⟨h', verdict_again hv⟩
  case inr.inr.inl =>
    rcases afterWait_cases d (takeSample s) with ⟨-, hw⟩ | ⟨-, hw⟩ | ⟨-, hw⟩ <;> rw [h', hw] at h <;> cases h
  all_goals rw [h'] at h; cases h

/-- A running operation in `PH_POLL` takes a step: it leaves the phase, or it polls on with the same deadline, two acts
of the environment later, the tick read with the first of them being before the deadline. -/
theorem poll_leaves_or_continues {i : Instr} {s : State} (hi : ∀ c, ∃ e, catalog c i.op = some e)
    (h : Running i .poll s) :
    ∃ t, step s = .next t ∧ (t.pc = .poll → Running i .poll t ∧ t.env = s.env.after 2 ∧ t.lDeadline = s.lDeadline ∧
      (s.env.after 1).tickCount % 2 ^ 32 < s.lDeadline.toNat) := by
  obtain ⟨e, he⟩ := hi s.cfg
  refine ⟨_, step_poll h he, fun hpc => ?_⟩
  obtain ⟨ht, hlt⟩ := pollOnce_stays hpc
  rw [ht]
  exact ⟨h.of_same rfl (by simp) (by simp) (by simp) (by simp), by rw [goto_env, takeSample_env]; rfl, by simp,
    by simpa [Environment.after] using hlt⟩

/-- The poll loop ends, by induction on the acts, two a sample. The count `base` is that of the last wrap. That one act
does not take the tick source over the next wrap is what a sample before the deadline keeps: the two acts of the sample
start below the deadline, which is two acts away from the wrap. -/
theorem poll_ends {i : Instr} (hi : ∀ c, ∃ e, catalog c i.op = some e) {b base : Nat} (hbase : 2 ^ 32 ∣ base) (k : Nat)
    {s : State} (h : Running i .poll s) (hmargin : s.lDeadline.toNat + 2 * b ≤ 2 ^ 32)
    (hle : base ≤ s.env.tickCount) (hwrap : s.env.tickCount + b < base + 2 ^ 32)
    (hreach : base + s.lDeadline.toNat ≤ (s.env.after k).tickCount)
    (hacts : ∀ j ≤ k, (s.env.after j).nextAct.ticks ≤ b) :
    ∃ n t, n ≤ k / 2 + 1 ∧ runSteps n s = .next t ∧ t.pc ≠ .poll := by
  obtain ⟨t, hstep, hpoll⟩ := poll_leaves_or_continues hi h
  by_cases hpc : t.pc = .poll
  case neg => exact ⟨1, t, by omega, runSteps_succ 0 hstep, hpc⟩
  case pos =>
    obtain ⟨hrun, henv, hdeadline, htick⟩ := hpoll hpc
    have hfirst : (s.env.after 1).tickCount = s.env.tickCount + s.env.nextAct.ticks := rfl
    have hact : s.env.nextAct.ticks ≤ b := hacts 0 (Nat.zero_le k)
    have hbefore : (s.env.after 1).tickCount < base + s.lDeadline.toNat := by omega
    match k with
    | 0 =>
      have hnow : base + s.lDeadline.toNat ≤ s.env.tickCount := hreach
      omega
    | 1 => omega
    | k + 2 =>
      have hsecond : (s.env.after 2).tickCount = (s.env.after 1).tickCount + (s.env.after 1).nextAct.ticks := rfl
      have hact' := hacts 1 (by omega)
      obtain ⟨n, u, hn, hrest, hu⟩ := poll_ends hi hbase k hrun (hdeadline ▸ hmargin) (by rw [henv]; omega)
        (by rw [henv]; omega) (by rw [hdeadline, henv]; exact hreach)
        (fun j hj => by rw [henv]; exact hacts (j + 2) (by omega))
      exact ⟨n + 1, u, by omega, (runSteps_succ n hstep).trans hrest, hu⟩

/-- Settles O35: with the count of the last wrap as the base, the count is an act away from the next wrap at the
start. -/
theorem waitEndsWhereTheTickSourceReachesTheDeadline : Obligations.WaitEndsWhereTheTickSourceReachesTheDeadline := by
  intro s q i b k hi h hahead hmargin hreach hacts
  have hlt := s.lDeadline.isLt
  exact poll_ends (catalog_of_mem_commandOps hi) (base := s.env.tickCount - s.env.tickCount % 2 ^ 32)
    (Nat.dvd_sub_mod _) k h hmargin (by omega) (by omega) hreach hacts

end Sys2Proof.Machine

/-! The host port while an operation runs (rule R70): no access, no phase and no decoder looks at it. -/

namespace Sys2Proof.Machine

/-- The state with other values in the host's two in-registers. -/
def withPort (o : BitVec 4) (v : Word) (s : State) : State :=
  { s with op := o, operand := v }

/-- An outcome with a change made to its next state; a fault and a refusal stay. -/
def changeNext (f : State → State) : Outcome → Outcome
  | .next t => .next (f t)
  | .fault r => .fault r
  | .refused r => .refused r

section
variable (o : BitVec 4) (v : Word) (s : State)

@[simp] theorem withPort_cfg : (withPort o v s).cfg = s.cfg := rfl
@[simp] theorem withPort_pc : (withPort o v s).pc = s.pc := rfl
@[simp] theorem withPort_lIdx : (withPort o v s).lIdx = s.lIdx := rfl
@[simp] theorem withPort_lDeadline : (withPort o v s).lDeadline = s.lDeadline := rfl
@[simp] theorem withPort_lT : (withPort o v s).lT = s.lT := rfl
@[simp] theorem withPort_lS : (withPort o v s).lS = s.lS := rfl
@[simp] theorem withPort_lCs : (withPort o v s).lCs = s.lCs := rfl

/-! ### The phases -/

theorem afterWait_withPort (d : Decoder) : afterWait d (withPort o v s) = withPort o v (afterWait d s) := by
  cases d <;> rfl

theorem pollOutcome_withPort (d : Decoder) : pollOutcome d (withPort o v s) = withPort o v (pollOutcome d s) := by
  simp only [pollOutcome, withPort_cfg, withPort_lDeadline, withPort_lT, withPort_lS]
  cases d.verdict s.cfg s.lDeadline s.lT s.lS
  case done => exact afterWait_withPort o v s d
  all_goals rfl

theorem pollOnce_withPort (d : Decoder) : pollOnce d (withPort o v s) = withPort o v (pollOnce d s) :=
  pollOutcome_withPort o v (takeSample s) d

theorem inspectCrc_withPort (d : Decoder) : inspectCrc d (withPort o v s) = withPort o v (inspectCrc d s) := by
  have hsta : readValue .sta (withPort o v s) = readValue .sta s := rfl
  simp only [inspectCrc, withPort_cfg, hsta, apply_ite (withPort o v)]
  rfl

theorem checkEcho_withPort : checkEcho (withPort o v s) = withPort o v (checkEcho s) := by
  have hecho : readValue .respCmd (withPort o v s) = readValue .respCmd s := rfl
  simp only [checkEcho, withPort_cfg, withPort_lIdx, hecho, apply_ite (withPort o v)]
  rfl

theorem clearAfterResponse_withPort (d : Decoder) :
    clearAfterResponse d (withPort o v s) = withPort o v (clearAfterResponse d s) := by
  simp only [clearAfterResponse, apply_ite (withPort o v)]
  rfl

theorem finishR1_withPort : finishR1 (withPort o v s) = withPort o v (finishR1 s) := by
  simp only [finishR1, withPort_cfg, withPort_lCs]
  cases classify s.cfg s.lCs <;> rfl

theorem finishR6_withPort : finishR6 (withPort o v s) = withPort o v (finishR6 s) := by
  simp only [finishR6, withPort_cfg, withPort_lCs]
  cases classifyR6 s.cfg s.lCs <;> rfl

theorem interpretStatus_withPort (d : Decoder) :
    interpretStatus d (withPort o v s) = withPort o v (interpretStatus d s) := by
  cases d
  case r1 => exact finishR1_withPort o v (readStatus s)
  case r6 => exact finishR6_withPort o v (readStatus s)
  all_goals rfl

/-! ### The step -/

/-- A phase that the operation lacks is refused either way. -/
theorem phaseStep_withPort (has : Bool) :
    phaseStep has (withPort o v s) = changeNext (withPort o v) (phaseStep has s) := by
  cases has <;> rfl

/-- The steps of a running catalog operation, phase by phase. -/
theorem runCommand_withPort (e : CatalogEntry) (code : BitVec 4) (q : Word) (hp : s.pc ≠ .idle) :
    runCommand e code q (withPort o v s) = changeNext (withPort o v) (runCommand e code q s) := by
  simp only [runCommand, withPort_pc]
  cases hpc : s.pc
  case idle => exact absurd hpc hp
  case arg | cmd | t0 => rfl
  case poll => simp only [pollOnce_withPort, changeNext]
  case clrt => exact phaseStep_withPort o v (clearHwTimeout s) _
  case clrc => exact phaseStep_withPort o v (clearCrcFail s) _
  case crc => simp only [inspectCrc_withPort, phaseStep_withPort]
  case echo => simp only [checkEcho_withPort, phaseStep_withPort]
  case clrf => simp only [clearAfterResponse_withPort, phaseStep_withPort]
  case resp => simp only [interpretStatus_withPort, phaseStep_withPort]

/-- The one step of a running `CLRF`, or its refusal in another phase. -/
theorem runClearFlags_withPort (code : BitVec 4) (q : Word) (hp : s.pc ≠ .idle) :
    runClearFlags code q (withPort o v s) = changeNext (withPort o v) (runClearFlags code q s) := by
  simp only [runClearFlags, withPort_pc]
  cases hpc : s.pc
  case idle => exact absurd hpc hp
  all_goals rfl

/-- A running operation steps alike whatever the port holds. -/
theorem exec_withPort (i : Instr) (hp : s.pc ≠ .idle) :
    exec i (withPort o v s) = changeNext (withPort o v) (exec i s) := by
  rcases catalog_or_clrf s.cfg i with ⟨e, he⟩ | hi
  · rw [exec_of_catalog (s := withPort o v s) he, exec_of_catalog he]
    exact runCommand_withPort o v s e _ _ hp
  · rw [hi, exec_clrf, exec_clrf]
    exact runClearFlags_withPort o v s _ _ hp

/-- A running engine steps alike whatever the port holds: it runs what its latches say (rule R26). -/
theorem step_withPort (hp : s.pc ≠ .idle) : step (withPort o v s) = changeNext (withPort o v) (step s) := by
  cases hs : s.start
  case true => rw [step_running_start hp hs, step_running_start (s := withPort o v s) hp hs]; rfl
  case false =>
    have hport : currentOperation (withPort o v s) = currentOperation s := by
      rw [currentOperation_running hp, currentOperation_running (s := withPort o v s) hp]
      rfl
    rw [step_running hp hs, step_running (s := withPort o v s) hp hs, runCurrent, runCurrent, hport]
    cases currentOperation s with
    | ok i => exact exec_withPort o v s i hp
    | error d => cases d; rfl

end

/-- Settles O52: the step with other port values is the same step, with those values in its next state. -/
theorem runningOperationIgnoresTheHostPort : Obligations.RunningOperationIgnoresTheHostPort := by
  intro s o v hp
  have hstep : step { s with op := o, operand := v } = changeNext (withPort o v) (step s) := step_withPort o v s hp
  refine ⟨fun t ht => ?_, fun r hr => ?_⟩
  · rw [hstep, ht]
    rfl
  · rw [hstep, hr]
    rfl

end Sys2Proof.Machine

/-! The descriptor and the program line (rules R75 to R77, R87 to R93): decoder and encoder undo each other. -/

namespace Sys2Proof.Machine

/-! ### Decoder and encoder -/

/-- In a well-formed record the port that holds an operation's number and operand decodes to it. -/
theorem decodePort_code {c : Config} (hc : c.wellFormed = true) (i : Instr) :
    decodePort c (i.op.code c) i.operand = .ok i :=
  decodePort_ok_iff.mpr ⟨ofCode_code hc i.op, rfl⟩

/-- A descriptor is its two halves put together (rule R75). -/
theorem descriptorOpcode_append_descriptorOperand (d : BitVec 36) : descriptorOpcode d ++ descriptorOperand d = d :=
  (BitVec.extractLsb'_append_extractLsb'_eq_extractLsb' (Nat.zero_add 32).symm).trans BitVec.extractLsb'_eq_self

/-- Settles O1: the fields of a concatenation are its halves, and the number of an operation selects it. -/
theorem decodeReadsEncodedOperation : Obligations.DecodeReadsEncodedOperation := by
  intro c i hc
  refine ⟨BitVec.extractLsb'_append_eq_left, BitVec.extractLsb'_append_eq_right, ?_⟩
  rw [encode, decode_append, decodePort_code hc]

/-- Settles O2: the opcode that selects an operation is its number, so the halves that the encoder puts together are
those of the descriptor. -/
theorem encodeRestoresDecodedDescriptor : Obligations.EncodeRestoresDecodedDescriptor := by
  intro c d i hd
  obtain ⟨hop, hoperand⟩ := decodePort_ok_iff.mp hd
  rw [encode, op_code_of_ofCode hop, ← hoperand, descriptorOpcode_append_descriptorOperand]

/-- Settles O3: 0xF selects no operation, and it is the only such opcode, as the fifteen numbers are all the others. -/
theorem onlyOpcodeFifteenIsReserved : Obligations.OnlyOpcodeFifteenIsReserved := by
  intro c v q hc
  constructor
  · rintro rfl
    rw [decodePort, ofCode_reserved hc]
  · intro hv
    cases hop : Op.ofCode c v with
    | none => exact absurd (eq_reserved_of_ofCode_none hc hop) hv
    | some o =>
      have hdecode : decodePort c v q = .ok (o.withOperand q) := by rw [decodePort, hop]
      obtain ⟨hselect, hoperand⟩ := decodePort_ok_iff.mp hdecode
      exact ⟨_, hdecode, op_code_of_ofCode hselect, hoperand.symm⟩

/-- Settles O4: each word and each number is evaluated with this hardware's record. -/
theorem sampleDescriptorsDecode : Obligations.SampleDescriptorsDecode := by
  refine ⟨?_, ?_, ?_, ?_, ?_, ?_, ?_, ?_, ?_, ?_⟩ <;> decide

/-! ### Program lines -/

/-- A well-formed line stands for its operation with its operand, or with 0 where it has none (rule R93). -/
theorem assemble_of_wellFormed {l : Line} (h : l.wellFormed = true) :
    assemble l = some (l.op.withOperand (BitVec.ofNat 32 (l.operand.getD 0))) :=
  if_pos h

/-- A line that is not well formed stands for nothing. -/
theorem assemble_of_not_wellFormed {l : Line} (h : ¬ l.wellFormed = true) : assemble l = none :=
  if_neg h

/-- A line without operand needs an operation of the format H-N (rule R93). -/
theorem wellFormed_line_none_iff (o : Op) :
    ({ op := o, operand := none } : Line).wellFormed = true ↔ o.format = .none := by
  simp [Line.wellFormed]

/-- A line with an operand needs one of 32 bits (rule R93). -/
theorem wellFormed_line_some_iff (o : Op) (n : Nat) :
    ({ op := o, operand := some n } : Line).wellFormed = true ↔ n < 2 ^ 32 := by
  simp [Line.wellFormed]

/-- Settles O5, by whether the line is well formed. -/
theorem programLineAssembles : Obligations.ProgramLineAssembles := by
  intro o
  refine ⟨fun hformat => ?_, fun hformat => ?_, fun n => ⟨fun hn => ?_, fun hn => ?_⟩⟩
  · exact assemble_of_wellFormed ((wellFormed_line_none_iff o).mpr hformat)
  · exact assemble_of_not_wellFormed (mt (wellFormed_line_none_iff o).mp hformat)
  · exact assemble_of_wellFormed ((wellFormed_line_some_iff o n).mpr hn)
  · exact assemble_of_not_wellFormed (mt (wellFormed_line_some_iff o n).mp (by omega))

end Sys2Proof.Machine

/-! The command word (rules R32, R79): the fields of a word, and that those of a well-formed layout do not touch. -/

namespace Sys2Proof.Machine

/-! ### One field of a word -/

/-- A bit of a word that holds one field. -/
theorem getLsbD_putField {w : Nat} (lo : Nat) (v : BitVec w) (n : Nat) :
    (putField lo v).getLsbD n = (decide (n < 32) && decide (lo ≤ n) && v.getLsbD (n - lo)) := by
  rw [putField, BitVec.getLsbD_shiftLeft, BitVec.getLsbD_setWidth]
  by_cases h : n < 32
  · have hsub : n - lo < 32 := by omega
    simp only [h, hsub, decide_true, Bool.true_and, ← decide_not, Nat.not_lt]
  · simp [h]

/-- A bit outside the field is 0. -/
theorem getLsbD_putField_outside {w lo n : Nat} (v : BitVec w) (h : n < lo ∨ lo + w ≤ n) :
    (putField lo v).getLsbD n = false := by
  rw [getLsbD_putField]
  rcases h with h | h
  · simp [h]
  · simp [BitVec.getLsbD_of_ge v (n - lo) (by omega)]

/-- The field reads back. -/
theorem extractLsb'_putField {w lo : Nat} (v : BitVec w) (h : lo + w ≤ 32) : (putField lo v).extractLsb' lo w = v := by
  refine BitVec.eq_of_getLsbD_eq fun k hk => ?_
  have hlt : lo + k < 32 := by omega
  rw [BitVec.getLsbD_extractLsb', getLsbD_putField, Nat.add_sub_cancel_left]
  simp [hk, hlt]

/-- A field that does not touch it reads 0. -/
theorem extractLsb'_putField_apart {w lo w' lo' : Nat} (v : BitVec w) (h : lo + w ≤ lo' ∨ lo' + w' ≤ lo) :
    (putField lo v).extractLsb' lo' w' = 0#w' := by
  refine BitVec.eq_of_getLsbD_eq fun k hk => ?_
  rw [BitVec.getLsbD_extractLsb', getLsbD_putField_outside v (by omega)]
  simp

/-- A field of one bit reads back. -/
theorem getLsbD_putField_ofBool {lo : Nat} (b : Bool) (h : lo < 32) :
    (putField lo (BitVec.ofBool b)).getLsbD lo = b := by
  rw [getLsbD_putField, Nat.sub_self, BitVec.getLsbD_ofBool]
  simp [h]

/-! ### The layout of CMD -/

/-- Two ranges without a common number lie one after the other. -/
theorem range_apart {a m b k : Nat} (hm : 0 < m) (hk : 0 < k)
    (h : ∀ x, a ≤ x ∧ x < a + m → ∀ y, b ≤ y ∧ y < b + k → x ≠ y) : a + m ≤ b ∨ b + k ≤ a := by
  by_contra hmeet
  exact h (max a b) (by omega) (max a b) (by omega) rfl

/-- A number that is not in a range lies before or after it. -/
theorem bit_apart {a m b : Nat} (h : ∀ x, a ≤ x ∧ x < a + m → x ≠ b) : b < a ∨ a + m ≤ b := by
  by_contra hin
  exact h b (by omega) rfl

/-- The four fields of a layout of CMD lie in the register and do not touch (95_test_vectors.md section 3.8), as
inequalities. -/
structure CmdFieldsApart (l : CmdLayout) : Prop where
  cmdIndex_fits : l.cmdIndex + 6 ≤ 32
  waitResp_fits : l.waitResp + 2 ≤ 32
  waitInt_fits : l.waitInt < 32
  cpsmEn_fits : l.cpsmEn < 32
  cmdIndex_waitResp : l.cmdIndex + 6 ≤ l.waitResp ∨ l.waitResp + 2 ≤ l.cmdIndex
  cmdIndex_waitInt : l.waitInt < l.cmdIndex ∨ l.cmdIndex + 6 ≤ l.waitInt
  cmdIndex_cpsmEn : l.cpsmEn < l.cmdIndex ∨ l.cmdIndex + 6 ≤ l.cpsmEn
  waitResp_waitInt : l.waitInt < l.waitResp ∨ l.waitResp + 2 ≤ l.waitInt
  waitResp_cpsmEn : l.cpsmEn < l.waitResp ∨ l.waitResp + 2 ≤ l.cpsmEn
  waitInt_cpsmEn : l.waitInt ≠ l.cpsmEn

/-- What a layout's check of its ten bits says of the four fields. -/
theorem cmdFieldsApart_of_wellFormed {l : CmdLayout} (h : l.wellFormed = true) : CmdFieldsApart l := by
  simp only [CmdLayout.wellFormed, Bool.and_eq_true, List.all_eq_true, decide_eq_true_eq, List.nodup_append,
    List.mem_append, List.mem_range'_1, List.mem_cons, List.not_mem_nil, or_false] at h
  obtain ⟨hfits, ⟨-, -, hfields⟩, hbits, hfieldBit⟩ := h
  have hindexEnd := hfits (l.cmdIndex + 5) (.inl (.inl (by omega)))
  have hrespEnd := hfits (l.waitResp + 1) (.inl (.inr (by omega)))
  exact {
    cmdIndex_fits := by omega
    waitResp_fits := by omega
    waitInt_fits := hfits _ (.inr (.inl rfl))
    cpsmEn_fits := hfits _ (.inr (.inr rfl))
    cmdIndex_waitResp := range_apart (by decide) (by decide) hfields
    cmdIndex_waitInt := bit_apart fun x hx => hfieldBit x (.inl hx) _ (.inl rfl)
    cmdIndex_cpsmEn := bit_apart fun x hx => hfieldBit x (.inl hx) _ (.inr rfl)
    waitResp_waitInt := bit_apart fun x hx => hfieldBit x (.inr hx) _ (.inl rfl)
    waitResp_cpsmEn := bit_apart fun x hx => hfieldBit x (.inr hx) _ (.inr rfl)
    waitInt_cpsmEn := by simpa using hbits }

theorem cmdFieldsApart_of_config {c : Config} (h : c.wellFormed = true) : CmdFieldsApart c.layout.cmd := by
  simp only [Config.wellFormed, Bool.and_eq_true] at h
  obtain ⟨⟨⟨⟨⟨-, hcmd⟩, -⟩, -⟩, -⟩, -⟩ := h
  exact cmdFieldsApart_of_wellFormed hcmd

/-! ### The command word -/

/-! Where the fields do not touch, each reads back what was put in it. -/

section
variable {c : Config} (h : CmdFieldsApart c.layout.cmd) (idx : BitVec 6) (m : WaitMode) (waitInt cpsmEn : Bool)
include h

theorem CmdFieldsApart.cmdIndexField_cmdWord : cmdIndexField c (cmdWord c idx m waitInt cpsmEn) = idx := by
  simp only [cmdIndexField, cmdWord, BitVec.extractLsb'_or]
  rw [extractLsb'_putField idx h.cmdIndex_fits, extractLsb'_putField_apart _ h.cmdIndex_waitResp.symm,
    extractLsb'_putField_apart (BitVec.ofBool waitInt) h.cmdIndex_waitInt,
    extractLsb'_putField_apart (BitVec.ofBool cpsmEn) h.cmdIndex_cpsmEn]
  simp

theorem CmdFieldsApart.waitRespField_cmdWord : waitRespField c (cmdWord c idx m waitInt cpsmEn) = waitRespCode c m := by
  simp only [waitRespField, cmdWord, BitVec.extractLsb'_or]
  rw [extractLsb'_putField _ h.waitResp_fits, extractLsb'_putField_apart idx h.cmdIndex_waitResp,
    extractLsb'_putField_apart (BitVec.ofBool waitInt) h.waitResp_waitInt,
    extractLsb'_putField_apart (BitVec.ofBool cpsmEn) h.waitResp_cpsmEn]
  simp

theorem CmdFieldsApart.waitIntField_cmdWord : waitIntField c (cmdWord c idx m waitInt cpsmEn) = waitInt := by
  simp only [waitIntField, cmdWord, BitVec.getLsbD_or]
  rw [getLsbD_putField_ofBool waitInt h.waitInt_fits, getLsbD_putField_outside idx h.cmdIndex_waitInt,
    getLsbD_putField_outside _ h.waitResp_waitInt, getLsbD_putField_outside _ (Nat.lt_or_gt_of_ne h.waitInt_cpsmEn)]
  simp

theorem CmdFieldsApart.cpsmEnField_cmdWord : cpsmEnField c (cmdWord c idx m waitInt cpsmEn) = cpsmEn := by
  simp only [cpsmEnField, cmdWord, BitVec.getLsbD_or]
  rw [getLsbD_putField_ofBool cpsmEn h.cpsmEn_fits, getLsbD_putField_outside idx h.cmdIndex_cpsmEn,
    getLsbD_putField_outside _ h.waitResp_cpsmEn, getLsbD_putField_outside _ (Nat.lt_or_gt_of_ne h.waitInt_cpsmEn.symm)]
  simp

end

/-- Outside the four fields a command word is 0. -/
theorem getLsbD_cmdWord_outside {c : Config} (idx : BitVec 6) (m : WaitMode) (waitInt cpsmEn : Bool) {n : Nat}
    (hidx : n < c.layout.cmd.cmdIndex ∨ c.layout.cmd.cmdIndex + 6 ≤ n)
    (hresp : n < c.layout.cmd.waitResp ∨ c.layout.cmd.waitResp + 2 ≤ n)
    (hint : n ≠ c.layout.cmd.waitInt) (hen : n ≠ c.layout.cmd.cpsmEn) :
    (cmdWord c idx m waitInt cpsmEn).getLsbD n = false := by
  simp only [cmdWord, BitVec.getLsbD_or]
  rw [getLsbD_putField_outside idx hidx, getLsbD_putField_outside _ hresp,
    getLsbD_putField_outside _ (Nat.lt_or_gt_of_ne hint), getLsbD_putField_outside _ (Nat.lt_or_gt_of_ne hen)]
  rfl

/-- A field put at its place is its value shifted there; the default layout has the index lowest. -/
theorem cmdWord_hardwareConfig (idx : BitVec 6) (m : WaitMode) (waitInt cpsmEn : Bool) :
    cmdWord hardwareConfig idx m waitInt cpsmEn =
      idx.setWidth 32 ||| (waitRespCode hardwareConfig m).setWidth 32 <<< 6
        ||| (BitVec.ofBool waitInt).setWidth 32 <<< 8 ||| (BitVec.ofBool cpsmEn).setWidth 32 <<< 10 := by
  have hidx : putField hardwareConfig.layout.cmd.cmdIndex idx = idx.setWidth 32 := BitVec.shiftLeft_zero _
  rw [cmdWord, hidx]
  rfl

/-- Settles O6, field by field, from the inequalities that a well-formed layout gives. -/
theorem commandWordHoldsItsFields : Obligations.CommandWordHoldsItsFields := by
  intro c idx m waitInt cpsmEn hc
  have hapart := cmdFieldsApart_of_config hc
  refine ⟨hapart.cmdIndexField_cmdWord idx m waitInt cpsmEn, hapart.waitRespField_cmdWord idx m waitInt cpsmEn,
    hapart.waitIntField_cmdWord idx m waitInt cpsmEn, hapart.cpsmEnField_cmdWord idx m waitInt cpsmEn,
    fun _ => getLsbD_cmdWord_outside idx m waitInt cpsmEn, ?_⟩
  rw [cmdWord_hardwareConfig]
  cases m <;> rfl

end Sys2Proof.Machine

/-! The operand: the argument that `PH_ARG` writes (rules R80 to R82, R171), and the bits of the operand that the steps
of a running operation do not look at (rules R77, R81). -/

namespace Sys2Proof.Machine

/-! ### The argument -/

/-- In `PH_ARG` the step of a catalog operation writes what its builder makes of the operand. -/
theorem exec_arg {i : Instr} {s : State} {e : CatalogEntry} (he : catalog s.cfg i.op = some e) (hp : s.pc = .arg) :
    exec i s = .next { memWrite .arg (buildArgument e.builder i.operand) s with pc := .cmd } := by
  rw [exec_of_catalog he, runCommand, hp]
  rfl

/-- Settles O10: the catalog names each operation's builder, whatever the record is, and the step writes its value. -/
theorem argumentPhaseWritesBuiltArgument : Obligations.ArgumentPhaseWritesBuiltArgument := by
  intro s q i a hmem hp
  have hbuilder : ∃ e, catalog s.cfg i.op = some e ∧ buildArgument e.builder i.operand = a := by
    simp only [List.mem_cons, Prod.mk.injEq, List.not_mem_nil, or_false] at hmem
    rcases hmem with ⟨rfl, rfl⟩ | ⟨rfl, rfl⟩ | ⟨rfl, rfl⟩ | ⟨rfl, rfl⟩ | ⟨rfl, rfl⟩ | ⟨rfl, rfl⟩ | ⟨rfl, rfl⟩ |
      ⟨rfl, rfl⟩ | ⟨rfl, rfl⟩ | ⟨rfl, rfl⟩ | ⟨rfl, rfl⟩ | ⟨rfl, rfl⟩ | ⟨rfl, rfl⟩ | ⟨rfl, rfl⟩ <;> exact ⟨_, rfl, rfl⟩
  obtain ⟨e, he, rfl⟩ := hbuilder
  exact exec_arg he hp

/-- The RCA builder puts the operand's low half above zeros (rule R81). -/
theorem buildArgument_rca (q : Word) : buildArgument .rca q = q.extractLsb' 0 16 ++ 0#16 :=
  BitVec.shiftLeft_eq_concat_of_lt (by decide)

/-- Settles O11: the argument written is the low half above zeros, and a write of ARG stores it. -/
theorem rcaArgumentIsTheShiftedLowHalf : Obligations.RcaArgumentIsTheShiftedLowHalf := by
  intro s t q i hi hp hnext
  have hentry : ∃ e, catalog s.cfg i.op = some e ∧ e.builder = .rca ∧ i.operand = q := by
    simp only [List.mem_cons, List.not_mem_nil, or_false] at hi
    rcases hi with rfl | rfl <;> exact ⟨_, rfl, rfl, rfl⟩
  obtain ⟨e, he, hb, rfl⟩ := hentry
  rw [exec_arg he hp, hb] at hnext
  injection hnext with ht
  have harg : t.ctrl.arg = i.operand.extractLsb' 0 16 ++ 0#16 := by
    rw [← buildArgument_rca, ← ht]
    rfl
  rw [harg]
  exact ⟨BitVec.extractLsb'_append_eq_left, BitVec.extractLsb'_append_eq_right⟩

/-! ### Bits without influence -/

/-- After START the phase table looks at the operand through the argument and the timeout alone. -/
theorem runCommand_congr_operand {e : CatalogEntry} {q q' : Word} {s : State} (code : BitVec 4) (hp : s.pc ≠ .idle)
    (harg : buildArgument e.builder q = buildArgument e.builder q')
    (htimeout : entryTimeout s.cfg e q = entryTimeout s.cfg e q') : runCommand e code q s = runCommand e code q' s := by
  unfold runCommand
  cases hpc : s.pc
  case idle => exact absurd hpc hp
  case arg => rw [harg]
  case t0 => rw [htimeout]
  all_goals rfl

/-- After START `CLRF` does not look at its operand (rule R186). -/
theorem runClearFlags_congr_operand {s : State} (code : BitVec 4) (q q' : Word) (hp : s.pc ≠ .idle) :
    runClearFlags code q s = runClearFlags code q' s := by
  unfold runClearFlags
  cases hpc : s.pc
  case idle => exact absurd hpc hp
  all_goals rfl

/-- After START the steps of one operation with two operands agree where its argument and its timeout do. -/
theorem exec_congr_operand {i i' : Instr} {s : State} {e : CatalogEntry} (he : catalog s.cfg i.op = some e)
    (hop : i'.op = i.op) (hp : s.pc ≠ .idle)
    (harg : buildArgument e.builder i.operand = buildArgument e.builder i'.operand)
    (htimeout : entryTimeout s.cfg e i.operand = entryTimeout s.cfg e i'.operand) : exec i s = exec i' s := by
  rw [exec_of_catalog he, exec_of_catalog (hop ▸ he : catalog s.cfg i'.op = some e), hop]
  exact runCommand_congr_operand _ hp harg htimeout

/-- Settles O53: the four H-N commands build a constant argument, the two H-R commands one from the low half, and all six
wait `T_RESP`; `CLRF` looks at no operand. -/
theorem unusedOperandBitsHaveNoInfluence : Obligations.UnusedOperandBitsHaveNoInfluence := by
  intro s q q' hp
  refine ⟨?operCond, ?sendCid, ?setRelAdd, ?stopTransfer, runClearFlags_congr_operand _ q q' hp, fun hlow => ?_⟩
  case operCond | sendCid | setRelAdd | stopTransfer => exact exec_congr_operand rfl rfl hp rfl rfl
  have harg : buildArgument .rca q = buildArgument .rca q' := by rw [buildArgument_rca, buildArgument_rca, hlow]
  exact ⟨exec_congr_operand rfl rfl hp harg rfl, exec_congr_operand rfl rfl hp harg rfl⟩

end Sys2Proof.Machine

/-! The dispatcher's command word (rules R101, R170, R171) and the flag manager's mask (rule R108): what `PH_CMD` writes
to CMD for each row of the catalog, and that a write of `STATIC_MASK` clears the ten static flags and nothing else. -/

namespace Sys2Proof.Machine

/-! ### The command word -/

/-- In `PH_CMD` the step of a catalog operation writes the command word of its row and latches the row's index. -/
theorem exec_cmd {i : Instr} {s : State} {e : CatalogEntry} (he : catalog s.cfg i.op = some e) (hp : s.pc = .cmd) :
    exec i s = .next { memWrite .cmd (cmdWord s.cfg e.idx e.mode false true) s with lIdx := e.idx, pc := .t0 } := by
  rw [exec_of_catalog he, runCommand, hp]
  rfl

/-- `P_ACMD41_WAITRESP` decides between the two modes that expect a response (rule R174). -/
theorem acmd41Mode_eq_ite (c : Config) : acmd41Mode c = if c.acmd41WaitResp = .short then .short else .long := by
  unfold acmd41Mode
  cases c.acmd41WaitResp <;> rfl

/-- Settles O12: the catalog names each operation's index and mode, and the step of `PH_CMD` writes them. -/
theorem commandPhaseWritesCatalogWord : Obligations.CommandPhaseWritesCatalogWord := by
  intro s q i idx m hmem hp
  have hrow : ∃ e, catalog s.cfg i.op = some e ∧ e.idx = idx ∧ e.mode = m := by
    rw [← acmd41Mode_eq_ite] at hmem
    fin_cases hmem <;> exact ⟨_, rfl, rfl, rfl⟩
  obtain ⟨e, he, rfl, rfl⟩ := hrow
  exact exec_cmd he hp

/-! ### `STATIC_MASK` -/

/-- In a well-formed record the clear bits have positions in ICR (rule R37). -/
theorem icrLayout_of_wellFormed {c : Config} (h : c.wellFormed = true) : c.layout.icr.wellFormed = true := by
  simp only [Config.wellFormed, Bool.and_eq_true] at h
  obtain ⟨⟨⟨-, hicr⟩, -⟩, -⟩ := h
  exact hicr

/-- `STATIC_MASK` has the clear bit of every flag. -/
theorem clearsFlag_staticMask {c : Config} (h : c.wellFormed = true) (f : StaticFlag) :
    clearsFlag c f (staticMask c) = true :=
  getLsbD_staticMask c f (flagLayout_position_lt (icrLayout_of_wellFormed h) f)

/-- Written to ICR, `STATIC_MASK` selects the ten flags of STA, wherever the two registers have them. -/
theorem selectedFlags_staticMask {c : Config} (h : c.wellFormed = true) :
    selectedFlags c (staticMask c) = staticStaMask c := by
  simp only [selectedFlags, clearsFlag_staticMask h, if_true, staticStaMask]

/-- A write of `STATIC_MASK` takes the ten flags out of STA. -/
theorem clearFlags_staticMask {c : Config} (h : c.wellFormed = true) (sta : Word) :
    clearFlags c (staticMask c) sta = sta &&& ~~~staticStaMask c := by
  rw [clearFlags, selectedFlags_staticMask h]

/-- No static flag is left after a write of `STATIC_MASK`. -/
theorem clearFlags_staticMask_and {c : Config} (h : c.wellFormed = true) (sta : Word) :
    clearFlags c (staticMask c) sta &&& staticStaMask c = 0#32 := by
  rw [clearFlags_staticMask h, BitVec.and_assoc, BitVec.and_comm (~~~_), BitVec.and_not_self]
  exact BitVec.and_zero

/-- An act of the environment adds the flags that it sets to those of STA, whatever it does to the other bits
(rule R61). -/
theorem actOnSta_and_staticStaMask (c : Config) (a : EnvAct) (sta : Word) :
    actOnSta c a sta &&& staticStaMask c = (sta &&& staticStaMask c) ||| (a.set &&& staticStaMask c) := by
  unfold actOnSta
  cases a.other with
  | none => exact BitVec.and_or_distrib_right
  | some v =>
    ext n
    simp only [BitVec.getElem_and, BitVec.getElem_or, BitVec.getElem_not]
    cases (staticStaMask c)[n] <;> simp

/-- Settles O37: the write leaves no flag, so a second one finds none to clear, and the next read has those that the
environment's act sets in between. -/
theorem staticMaskClearsAllTenOnce : Obligations.StaticMaskClearsAllTenOnce := by
  refine ⟨fun c sta hc => ⟨clearFlags_staticMask_and hc sta, ?again⟩, fun s hc hset => ?read, by decide⟩
  case again =>
    simp only [clearFlags_staticMask hc, BitVec.and_assoc, BitVec.and_self]
  case read =>
    have hread : readValue .sta (clearStaticFlags s) = actOnSta s.cfg (clearStaticFlags s).env.nextAct
        (clearFlags s.cfg (staticMask s.cfg) (environmentActs s).ctrl.sta) := rfl
    rw [hread, actOnSta_and_staticStaMask, clearFlags_staticMask_and hc, hset, BitVec.or_zero]

end Sys2Proof.Machine

/-! The Response Wait Engine and the idle wait (41_wait_engine.md), phase by phase: the deadline's capture, the sample and
its outcome, the CRC inspection, and the two exits that clear one flag. -/

namespace Sys2Proof.Machine

/-! ### Which operation takes which path -/

/-- The operations of `commandOps q` carry the operand `q`. -/
theorem operand_of_mem_commandOps {q : Word} {i : Instr} (h : i ∈ commandOps q) : i.operand = q :=
  operand_of_mem_everyOp (List.mem_cons_of_mem _ h)

/-- An operation that waits for a response issues a command. -/
theorem mem_commandOps_of_mem_responseOps {q : Word} {i : Instr} (h : i ∈ responseOps q) : i ∈ commandOps q :=
  List.mem_cons_of_mem _ h

/-- An operation that looks at the CRC waits for a response, `OPER_COND` among them. -/
theorem mem_responseOps_of_crc {q : Word} {i : Instr} {p : Prop} (h : i ∈ crcOps q ∨ (i = .operCond q ∧ p)) :
    i ∈ responseOps q := by
  rcases h with h | ⟨rfl, -⟩
  · exact List.mem_append_right _ h
  · exact List.mem_append_left _ (List.mem_cons_of_mem _ List.mem_cons_self)

/-- `IDLE` waits for the time its operand gives, every other command `T_RESP` (rules R110, R170). -/
theorem entryTimeout_of_catalog {c : Config} {i : Instr} {e : CatalogEntry} (he : catalog c i.op = some e) :
    entryTimeout c e i.operand = if i = .idle i.operand then i.operand else c.tResp := by
  cases i <;> simp only [catalog, Instr.op, Option.some.injEq, reduceCtorEq] at he <;> subst he
  case idle => exact (if_pos rfl).symm
  all_goals exact (if_neg nofun).symm

/-- The lists of operations and the catalog's decoders say the same: who waits for a response, who looks at the CRC
(`OPER_COND` only where its parameter says so, rule R175), and who reads a status (rules R83, R130). -/
theorem decoder_iff_of_catalog {c : Config} {i : Instr} {e : CatalogEntry} (he : catalog c i.op = some e) :
    (e.decoder.waitsForResponse = true ↔ i ∈ responseOps i.operand) ∧
    (e.decoder.checksCrc = true ↔
      i ∈ crcOps i.operand ∨ (i = .operCond i.operand ∧ c.operCondDecoder = .longId)) ∧
    (e.decoder.readsStatus = true ↔ i ∈ statusOps i.operand) := by
  cases i <;> simp only [catalog, Instr.op, Option.some.injEq, reduceCtorEq] at he <;> subst he
  case operCond =>
    cases hd : c.operCondDecoder <;>
      simp [operCondEntry, operCondDecoder, hd, Decoder.waitsForResponse, Decoder.checksCrc, Decoder.readsStatus,
        Instr.operand, responseOps, crcOps, longIdOps, statusOps, shortStatusOps]
  case idle | appOper | sendCid | sendCsd =>
    simp [idleEntry, appOperEntry, sendCidEntry, sendCsdEntry, Decoder.waitsForResponse, Decoder.checksCrc,
      Decoder.readsStatus, Instr.operand, responseOps, crcOps, longIdOps, statusOps, shortStatusOps]
  all_goals
    refine ⟨iff_of_true rfl ?_, iff_of_true rfl (.inl ?_), iff_of_true rfl ?_⟩ <;>
      simp [Instr.operand, responseOps, crcOps, statusOps, shortStatusOps]

/-- An operation that waits for a response has a row in the catalog with such a decoder. -/
theorem catalog_of_mem_responseOps {q : Word} {i : Instr} (h : i ∈ responseOps q) (c : Config) :
    ∃ e, catalog c i.op = some e ∧ e.decoder.waitsForResponse = true := by
  obtain ⟨e, he⟩ := catalog_of_mem_commandOps (mem_commandOps_of_mem_responseOps h) c
  obtain rfl := operand_of_mem_commandOps (mem_commandOps_of_mem_responseOps h)
  obtain ⟨hwait, -, -⟩ := decoder_iff_of_catalog he
  exact ⟨e, he, hwait.mpr h⟩

/-- An operation that looks at the CRC has a row in the catalog with such a decoder. -/
theorem catalog_of_crc {c : Config} {q : Word} {i : Instr}
    (h : i ∈ crcOps q ∨ (i = .operCond q ∧ c.operCondDecoder = .longId)) :
    ∃ e, catalog c i.op = some e ∧ e.decoder.checksCrc = true := by
  have hmem := mem_commandOps_of_mem_responseOps (mem_responseOps_of_crc h)
  obtain ⟨e, he⟩ := catalog_of_mem_commandOps hmem c
  obtain rfl := operand_of_mem_commandOps hmem
  obtain ⟨-, hcrc, -⟩ := decoder_iff_of_catalog he
  exact ⟨e, he, hcrc.mpr h⟩

/-! ### The deadline -/

/-- In `PH_T0` the step of a catalog operation reads the tick and captures the deadline. -/
theorem exec_t0 {i : Instr} {s : State} {e : CatalogEntry} (he : catalog s.cfg i.op = some e) (hp : s.pc = .t0) :
    exec i s = .next (captureDeadline (entryTimeout s.cfg e i.operand) s) := by
  rw [exec_of_catalog he, runCommand, hp]

/-- No step outside `PH_T0` changes the deadline: START changes no latch of the wait, and a running step neither with
the accesses of its phase nor with its ending. -/
theorem exec_keeps_lDeadline {i : Instr} {s t : State} (hp : s.pc ≠ .t0) (h : exec i s = .next t) :
    t.lDeadline = s.lDeadline := by
  by_cases h0 : s.pc = .idle
  · obtain ⟨-, rfl⟩ := exec_next_of_idle h0 h
    rfl
  · obtain ⟨m, ha, hend⟩ := exec_running h h0
    exact hend.lDeadline.trans (ha.deadline_frame hp)

/-- Settles O14: the catalog's timeout goes into the capture, and the other phases keep the latch. -/
theorem deadlineIsCapturedOnce : Obligations.DeadlineIsCapturedOnce := by
  refine ⟨fun s q i hi => ⟨fun hp => ?_, fun _ => exec_keeps_lDeadline⟩, rfl⟩
  obtain ⟨e, he⟩ := catalog_of_mem_commandOps hi s.cfg
  obtain rfl := operand_of_mem_commandOps hi
  rw [exec_t0 he hp, entryTimeout_of_catalog he]
  rfl

/-- The deadline is reached from the first tick value that is not below it (rules R11, R112). -/
theorem deadlineReached_iff {t deadline : Word} : deadlineReached t deadline = true ↔ deadline ≤ t :=
  BitVec.ule_iff_le

theorem deadlineReached_eq_false_iff {t deadline : Word} : deadlineReached t deadline = false ↔ t < deadline := by
  rw [← Bool.not_eq_true, deadlineReached_iff, BitVec.not_le]

/-- Settles O43: a sum below 2^32 is the deadline itself, and one that wraps is below `now`. -/
theorem deadlineTestAndItsWrap : Obligations.DeadlineTestAndItsWrap := by
  intro now timeout t
  refine ⟨fun hsum => ?_, ?_, fun hle hwrap => ?_⟩
  · rw [deadlineReached_iff, BitVec.le_def, BitVec.toNat_add, Nat.mod_eq_of_lt hsum]
  · rintro hle rfl
    rwa [BitVec.add_zero, deadlineReached_iff]
  · have hnow := now.isLt
    have htimeout := timeout.isLt
    rw [deadlineReached_iff, BitVec.le_def, BitVec.toNat_add]
    rw [BitVec.le_def] at hle
    omega

/-! ### The sample and its outcome -/

/-- Settles O15: the values are those after one act and after two, and each access enters the history. -/
theorem sampleReadsTickThenStatus : Obligations.SampleReadsTickThenStatus :=
  fun s => ⟨takeSample_lT s, rfl, takeSample_history s, takeSample_ctrl s⟩

/-- In `PH_POLL` the step of a catalog operation takes a sample, which decides the rest. -/
theorem exec_poll {i : Instr} {s : State} {e : CatalogEntry} (he : catalog s.cfg i.op = some e) (hp : s.pc = .poll) :
    exec i s = .next (pollOutcome e.decoder (takeSample s)) := by
  rw [exec_of_catalog he, runCommand, hp, pollOnce]

/-- Every wait looks at the deadline first (rules R112, R118). -/
theorem verdict_of_reached (d : Decoder) (c : Config) {deadline t : Word} (sta : Word) (h : deadline ≤ t) :
    d.verdict c deadline t sta = .expired := by
  have hr := deadlineReached_iff.mpr h
  cases d <;> simp [Decoder.verdict, basicVerdict, sentVerdict, hr]

/-- Before the deadline a response wait looks at `CTIMEOUT`, then at `CCRCFAIL` and `CMDREND` (rule R114). -/
theorem verdict_of_waitsForResponse {d : Decoder} (hd : d.waitsForResponse = true) (c : Config) {deadline t : Word}
    (sta : Word) (h : t < deadline) :
    d.verdict c deadline t sta =
      if flagSet c .ctimeout sta then .hwTimeout
      else if flagSet c .ccrcfail sta || flagSet c .cmdrend sta then .done else .again := by
  have hr := deadlineReached_eq_false_iff.mpr h
  cases d
  case waitSent => cases hd
  all_goals simp [Decoder.verdict, basicVerdict, hr]

/-- Before the deadline the idle wait looks at `CMDSENT` alone (rule R118). -/
theorem verdict_waitSent (c : Config) {deadline t : Word} (sta : Word) (h : t < deadline) :
    Decoder.waitSent.verdict c deadline t sta = if flagSet c .cmdsent sta then .done else .again := by
  simp [Decoder.verdict, sentVerdict, deadlineReached_eq_false_iff.mpr h]

/-! What a poll iteration makes of its sample, verdict by verdict (rules R112, R114, R118). -/

section
variable {d : Decoder} {m : State}

theorem pollOutcome_expired (h : d.verdict m.cfg m.lDeadline m.lT m.lS = .expired) :
    pollOutcome d m = raiseError .timeout m := by rw [pollOutcome, h]

theorem pollOutcome_hwTimeout (h : d.verdict m.cfg m.lDeadline m.lT m.lS = .hwTimeout) :
    pollOutcome d m = goto .clrt m := by rw [pollOutcome, h]

theorem pollOutcome_done (h : d.verdict m.cfg m.lDeadline m.lT m.lS = .done) :
    pollOutcome d m = afterWait d m := by rw [pollOutcome, h]

theorem pollOutcome_again (h : d.verdict m.cfg m.lDeadline m.lT m.lS = .again) :
    pollOutcome d m = goto .poll m := by rw [pollOutcome, h]

end

/-- A response wait that ended well goes on to the CRC where the decoder looks at it, and clears the flags otherwise
(rules R115, R116, R135). -/
theorem afterWait_of_waitsForResponse {d : Decoder} (hd : d.waitsForResponse = true) (s : State) :
    afterWait d s = goto (if d.checksCrc = true then .crc else .clrf) s := by
  cases d
  case waitSent => cases hd
  all_goals rfl

/-- In `PH_CLRT` the step of an operation that waits for a response clears `CTIMEOUT` and raises `CmdRespTimeout`. -/
theorem exec_clrt {i : Instr} {s : State} {e : CatalogEntry} (he : catalog s.cfg i.op = some e)
    (hd : e.decoder.waitsForResponse = true) (hp : s.pc = .clrt) : exec i s = .next (clearHwTimeout s) := by
  rw [exec_of_catalog he, runCommand, hp, hd]
  rfl

/-- Settles O16, clause by clause from the verdict on the sample. -/
theorem responsePollFollowsPrecedence : Obligations.ResponsePollFollowsPrecedence := by
  intro s q i hi hp m
  obtain ⟨e, he, hwait⟩ := catalog_of_mem_responseOps hi s.cfg
  obtain rfl := operand_of_mem_commandOps (mem_commandOps_of_mem_responseOps hi)
  have hcfg : m.cfg = s.cfg := takeSample_cfg s
  obtain ⟨-, hcrcOps, -⟩ := decoder_iff_of_catalog he
  have hexec : exec i s = .next (pollOutcome e.decoder m) := exec_poll he hp
  have hverdict := verdict_of_waitsForResponse hwait m.cfg (deadline := m.lDeadline) (t := m.lT) m.lS
  rw [hexec]
  rw [← hcfg] at he hcrcOps ⊢
  clear_value m
  refine ⟨fun hle => ?expired, fun hlt htime => ⟨?hwTimeout, ?exit⟩, fun hlt htime hdone => ?done,
    fun hlt htime hcrc hrend => ?again⟩
  case expired => rw [pollOutcome_expired (verdict_of_reached e.decoder m.cfg m.lS hle)]; rfl
  case hwTimeout => rw [pollOutcome_hwTimeout ((hverdict hlt).trans (if_pos htime))]; rfl
  case exit => exact exec_clrt (s := goto .clrt m) he hwait rfl
  case done =>
    rw [pollOutcome_done (by simp [hverdict hlt, htime, hdone]), afterWait_of_waitsForResponse hwait]
    simp only [hcrcOps]
    rfl
  case again => rw [pollOutcome_again (by simp [hverdict hlt, htime, hcrc, hrend])]; rfl

/-- Settles O17, clause by clause from the verdict on the sample. -/
theorem idlePollEndsOnCommandSent : Obligations.IdlePollEndsOnCommandSent := by
  intro s q hp m
  have hexec : exec (.idle q) s = .next (pollOutcome .waitSent m) := exec_poll (e := idleEntry s.cfg) rfl hp
  have hverdict := verdict_waitSent m.cfg (deadline := m.lDeadline) (t := m.lT) m.lS
  rw [hexec, ← takeSample_cfg s]
  refine ⟨fun hle => ?expired, fun hlt hsent => ?sent, fun hlt hsent => ?again⟩
  case expired => rw [pollOutcome_expired (verdict_of_reached .waitSent m.cfg m.lS hle)]; rfl
  case sent => rw [pollOutcome_done ((hverdict hlt).trans (if_pos hsent))]; rfl
  case again => rw [pollOutcome_again ((hverdict hlt).trans (if_neg (by rw [hsent]; decide)))]; rfl

/-! ### The CRC inspection -/

/-- In `PH_CRC` the step of an operation that looks at the CRC reads STA again. -/
theorem exec_crc {i : Instr} {s : State} {e : CatalogEntry} (he : catalog s.cfg i.op = some e)
    (hd : e.decoder.checksCrc = true) (hp : s.pc = .crc) : exec i s = .next (inspectCrc e.decoder s) := by
  rw [exec_of_catalog he, runCommand, hp, hd]
  rfl

/-- With `CCRCFAIL` in the fresh value the flag is cleared next. -/
theorem inspectCrc_of_fail {s : State} (d : Decoder) (h : flagSet s.cfg .ccrcfail (readValue .sta s) = true) :
    inspectCrc d s = goto .clrc (afterRead .sta s) := by
  rw [inspectCrc, if_pos h]

/-- Without `CCRCFAIL`, the decoders that read a status check the echoed index first (rules R131, R134, R136). -/
theorem inspectCrc_of_good {s : State} (d : Decoder) (h : flagSet s.cfg .ccrcfail (readValue .sta s) = false) :
    inspectCrc d s = goto (if d.readsStatus = true then .echo else .clrf) (afterRead .sta s) := by
  rw [inspectCrc, h]
  cases d.readsStatus <;> rfl

/-- Settles O19, by what the fresh value says and by whether the decoder reads a status. -/
theorem crcInspectionReadsStatusAfresh : Obligations.CrcInspectionReadsStatusAfresh := by
  intro s q i hi hp v m
  obtain ⟨e, he, hcrc⟩ := catalog_of_crc hi
  obtain rfl := operand_of_mem_commandOps (mem_commandOps_of_mem_responseOps (mem_responseOps_of_crc hi))
  obtain ⟨-, -, hstatus⟩ := decoder_iff_of_catalog he
  rw [exec_crc he hcrc hp, ← hstatus]
  refine ⟨fun hfail => ?fail, fun hgood hr => ?echo, fun hgood hr => ?clrf⟩
  case fail => rw [inspectCrc_of_fail e.decoder hfail]; rfl
  case echo => rw [inspectCrc_of_good e.decoder hgood, if_pos hr]; rfl
  case clrf => rw [inspectCrc_of_good e.decoder hgood, if_neg hr]; rfl

/-! ### The exits that clear one flag -/

/-- In `PH_CLRC` the step of an operation that looks at the CRC clears `CCRCFAIL` and raises `CmdCrcFailed`. -/
theorem exec_clrc {i : Instr} {s : State} {e : CatalogEntry} (he : catalog s.cfg i.op = some e)
    (hd : e.decoder.checksCrc = true) (hp : s.pc = .clrc) : exec i s = .next (clearCrcFail s) := by
  rw [exec_of_catalog he, runCommand, hp, hd]
  rfl

/-- The mask of one clear bit selects its own flag alone (rule R37). -/
theorem clearsFlag_icrMask {c : Config} (h : c.wellFormed = true) (f g : StaticFlag) :
    clearsFlag c f (icrMask c g) = decide (f = g) := by
  have hlayout := icrLayout_of_wellFormed h
  have hpos : c.layout.icr.position f = c.layout.icr.position g ↔ f = g :=
    ⟨flagLayout_position_injective hlayout, congrArg _⟩
  rw [clearsFlag, icrMask, getLsbD_bitMask]
  simp [hpos, flagLayout_position_lt hlayout f]

/-- A write of one clear bit clears its flag and leaves the others as the environment left them (rule R106). -/
theorem flagSet_memWrite_icrMask {s : State} (h : s.cfg.wellFormed = true) (f g : StaticFlag) :
    flagSet s.cfg f (memWrite .icr (icrMask s.cfg g) s).ctrl.sta =
      if f = g then false else flagSet s.cfg f (environmentActs s).ctrl.sta := by
  rw [memWrite_ctrl, controller_write_icr_sta, flagSet_clearFlags h, clearsFlag_icrMask h]
  by_cases hfg : f = g <;> simp [hfg]

/-- Settles O18: the step is one write of one clear bit and the closing step, which leaves STA alone. -/
theorem hardwareTimeoutExitClearsOneFlag : Obligations.HardwareTimeoutExitClearsOneFlag := by
  intro s q i hi hp
  obtain ⟨e, he, hwait⟩ := catalog_of_mem_responseOps hi s.cfg
  exact ⟨_, exec_clrt he hwait hp, rfl, fun hc f => flagSet_memWrite_icrMask hc f .ctimeout⟩

/-- Settles O20, as O18, for the operations that look at the CRC. -/
theorem crcFailureExitClearsOneFlag : Obligations.CrcFailureExitClearsOneFlag := by
  intro s q i hi hp
  obtain ⟨e, he, hcrc⟩ := catalog_of_crc hi
  exact ⟨_, exec_clrc he hcrc hp, rfl, fun hc f => flagSet_memWrite_icrMask hc f .ccrcfail⟩

end Sys2Proof.Machine

/-! The response decoders (42_response_decoders.md), phase by phase: the echo check, the clearing of the flags and the
status. -/

namespace Sys2Proof.Machine

/-! ### Which operation has which decoder -/

/-- An operation that reads a status looks at the CRC before (rule R83). -/
theorem mem_crcOps_of_mem_statusOps {q : Word} {i : Instr} (h : i ∈ statusOps q) : i ∈ crcOps q :=
  List.mem_append_right _ h

/-- An operation that reads a status waits for a response. -/
theorem mem_responseOps_of_mem_statusOps {q : Word} {i : Instr} (h : i ∈ statusOps q) : i ∈ responseOps q :=
  List.mem_append_right _ (mem_crcOps_of_mem_statusOps h)

/-- An operation that reads a status has a row in the catalog with such a decoder. -/
theorem catalog_of_mem_statusOps {q : Word} {i : Instr} (h : i ∈ statusOps q) (c : Config) :
    ∃ e, catalog c i.op = some e ∧ e.decoder.readsStatus = true := by
  have hmem := mem_commandOps_of_mem_responseOps (mem_responseOps_of_mem_statusOps h)
  obtain ⟨e, he⟩ := catalog_of_mem_commandOps hmem c
  obtain rfl := operand_of_mem_commandOps hmem
  obtain ⟨-, -, hstatus⟩ := decoder_iff_of_catalog he
  exact ⟨e, he, hstatus.mpr h⟩

/-- The short-status operations are those of `DEC_R1` (rule R171). -/
theorem catalog_of_mem_shortStatusOps {q : Word} {i : Instr} (h : i ∈ shortStatusOps q) (c : Config) :
    ∃ e, catalog c i.op = some e ∧ e.decoder = .r1 := by
  simp only [shortStatusOps, List.mem_cons, List.not_mem_nil, or_false] at h
  rcases h with rfl | rfl | rfl | rfl | rfl | rfl | rfl | rfl <;> exact ⟨_, rfl, rfl⟩

/-- The operations of `DEC_R2` and `DEC_R3`, `OPER_COND` with either decoder, wait for a response and read no status
(rules R134, R135, R175). -/
theorem catalog_of_no_status {q : Word} {i : Instr} (h : i ∈ [Instr.appOper q, .operCond q, .sendCid q, .sendCsd q])
    (c : Config) :
    ∃ e, catalog c i.op = some e ∧ e.decoder.waitsForResponse = true ∧ e.decoder.readsStatus = false := by
  have hmem : i ∈ responseOps q ∧ i ∉ statusOps q := by
    simp only [List.mem_cons, List.not_mem_nil, or_false] at h
    rcases h with rfl | rfl | rfl | rfl <;> simp [responseOps, crcOps, longIdOps, statusOps, shortStatusOps]
  obtain ⟨hresponse, hstatus⟩ := hmem
  obtain ⟨e, he, hwait⟩ := catalog_of_mem_responseOps hresponse c
  obtain rfl := operand_of_mem_commandOps (mem_commandOps_of_mem_responseOps hresponse)
  obtain ⟨-, -, hreads⟩ := decoder_iff_of_catalog he
  exact ⟨e, he, hwait, Bool.eq_false_iff.mpr (mt hreads.mp hstatus)⟩

/-- A decoder that reads a status checks the CRC before (rule R130). -/
theorem checksCrc_of_readsStatus {d : Decoder} (h : d.readsStatus = true) : d.checksCrc = true := by
  revert h
  cases d <;> decide

/-- Every operation that waits for a response waits `T_RESP` (rules R110, R170). -/
theorem timeout_of_waitsForResponse {c : Config} {o : Op} {e : CatalogEntry} (he : catalog c o = some e)
    (h : e.decoder.waitsForResponse = true) : e.timeout = .response := by
  cases o <;> simp only [catalog, Option.some.injEq, reduceCtorEq] at he <;> subst he
  case idle => cases h
  all_goals rfl

/-! ### The echo check -/

/-- In `PH_ECHO` the step of an operation that reads a status checks the echoed index. -/
theorem exec_echo {i : Instr} {s : State} {e : CatalogEntry} (he : catalog s.cfg i.op = some e)
    (hd : e.decoder.readsStatus = true) (hp : s.pc = .echo) : exec i s = .next (checkEcho s) := by
  rw [exec_of_catalog he, runCommand, hp, hd]
  rfl

theorem checkEcho_of_match {s : State} (h : echoedIndex s.cfg (readValue .respCmd s) = s.lIdx) :
    checkEcho s = goto .clrf (afterRead .respCmd s) :=
  if_pos h

/-- A mismatch ends the operation with `CmdCrcFailed` and clears nothing (rule R132). -/
theorem checkEcho_of_mismatch {s : State} (h : echoedIndex s.cfg (readValue .respCmd s) ≠ s.lIdx) :
    checkEcho s = raiseError (.protocol .cmdCrcFailed) (afterRead .respCmd s) :=
  if_neg h

/-- Settles O21, by whether the field of the value read is the index issued. -/
theorem echoCheckComparesTheFieldAlone : Obligations.EchoCheckComparesTheFieldAlone := by
  intro s q i hi hp v m
  obtain ⟨e, he, hstatus⟩ := catalog_of_mem_statusOps hi s.cfg
  rw [exec_echo he hstatus hp]
  refine ⟨fun hmatch => ?_, fun hmismatch => ?_⟩
  · rw [checkEcho_of_match hmatch]
    rfl
  · rw [checkEcho_of_mismatch hmismatch]
    rfl

/-! ### The clearing of the flags -/

/-- In `PH_CLRF` the step of an operation that waits for a response is its decoder's `CLRF`. -/
theorem exec_clrf_of_catalog {i : Instr} {s : State} {e : CatalogEntry} (he : catalog s.cfg i.op = some e)
    (hd : e.decoder.waitsForResponse = true) (hp : s.pc = .clrf) :
    exec i s = .next (clearAfterResponse e.decoder s) := by
  rw [exec_of_catalog he, runCommand, hp, hd]
  rfl

/-- The decoders that read a status go on to it (rules R131, R136). -/
theorem clearAfterResponse_of_readsStatus {d : Decoder} (h : d.readsStatus = true) (s : State) :
    clearAfterResponse d s = goto .resp (clearStaticFlags s) :=
  if_pos h

/-- The others end with success (rules R134, R135). -/
theorem clearAfterResponse_of_no_status {d : Decoder} (h : d.readsStatus = false) (s : State) :
    clearAfterResponse d s = closeOk (clearStaticFlags s) := by
  rw [clearAfterResponse, h]
  rfl

/-- Settles O22, by whether the decoder reads a status. -/
theorem decoderClearsFlagsThenEndsOrReadsStatus : Obligations.DecoderClearsFlagsThenEndsOrReadsStatus := by
  intro s q i hp
  refine ⟨fun hi => ?_, fun hi => ?_⟩
  · obtain ⟨e, he, hwait, hstatus⟩ := catalog_of_no_status hi s.cfg
    rw [exec_clrf_of_catalog he hwait hp, clearAfterResponse_of_no_status hstatus]
    rfl
  · obtain ⟨e, he, hstatus⟩ := catalog_of_mem_statusOps hi s.cfg
    rw [exec_clrf_of_catalog he (waitsForResponse_of_readsStatus hstatus) hp, clearAfterResponse_of_readsStatus hstatus]
    rfl

/-! ### The status -/

/-- In `PH_RESP` the step of an operation that reads a status interprets it. -/
theorem exec_resp {i : Instr} {s : State} {e : CatalogEntry} (he : catalog s.cfg i.op = some e)
    (hd : e.decoder.readsStatus = true) (hp : s.pc = .resp) : exec i s = .next (interpretStatus e.decoder s) := by
  rw [exec_of_catalog he, runCommand, hp, hd]
  rfl

/-- The result code of a short status: `RC_OK`, or the code of the classifier's error (rules R131, R151). -/
def statusResult (c : Config) (cs : Word) : BitVec 8 :=
  (classify c cs).elim c.rc.ok (CardError.code c)

/-- `DEC_R1` always closes, with the result code of the status it has read. -/
theorem interpretStatus_r1 (s : State) :
    interpretStatus .r1 s = closeWith (statusResult s.cfg (readValue .resp1 s)) (readStatus s) := by
  have hlatched : (readStatus s).lCs = readValue .resp1 s := rfl
  rw [← hlatched, statusResult, interpretStatus]
  rcases finishR1_cases (readStatus s) with ⟨hc, h⟩ | ⟨err, hc, h⟩ <;> rw [h, ← readStatus_cfg s, hc] <;> rfl

/-- Without a disqualifying bit the R6 classifier finds no error (rule R158). -/
theorem classifyR6_eq_none {c : Config} {cs : Word} (hcrc : cs &&& c.r6Mask.comCrcFailed = 0#32)
    (hcmd : cs &&& c.r6Mask.illegalCmd = 0#32) (hgeneral : cs &&& c.r6Mask.generalUnknownError = 0#32) :
    classifyR6 c cs = none := by
  simp [classifyR6, r6Table, firstMatch, hcrc, hcmd, hgeneral]

/-- `DEC_R6` delivers the RCA of a status without error (rules R136, R138). -/
theorem interpretStatus_r6_of_none {s : State} (h : classifyR6 s.cfg (readValue .resp1 s) = none) :
    interpretStatus .r6 s = closeWithRca (rcaOfStatus (readValue .resp1 s)) (readStatus s) := by
  rcases finishR6_cases (readStatus s) with ⟨-, h'⟩ | ⟨err, herr, -⟩
  · exact h'
  · cases h.symm.trans herr

/-- Settles O23: `DEC_R1` latches the value read and closes with its result code. -/
theorem shortStatusIsReadAndClassified : Obligations.ShortStatusIsReadAndClassified := by
  intro s q i hi hp v
  obtain ⟨e, he, hd⟩ := catalog_of_mem_shortStatusOps hi s.cfg
  rw [exec_resp he (by rw [hd]; rfl) hp, hd, interpretStatus_r1]
  show Host.Outcome.next (closeWith (statusResult s.cfg v) (readStatus s)) = _
  rw [statusResult]
  cases classify s.cfg v <;> rfl

end Sys2Proof.Machine

/-! Whole operations (rules R26, R170), from START to the closing step. Each phase of a run under way is one lemma that
keeps of the state only what the later phases need; a run is the chain of its phases. -/

namespace Sys2Proof.Machine

/-! ### A run under way -/

/-- A running operation's step is that of its phase. -/
theorem step_of_running_eq_exec {i : Instr} {p : Phase} {s : State} (h : Running i p s) (hp : p ≠ .idle) :
    step s = exec i s := by
  obtain ⟨hpc, hstart, hop, hoperand⟩ := h
  have hne : s.pc ≠ .idle := hpc ▸ hp
  rw [step_running hne hstart,
    runCurrent_ok ((currentOperation_running hne).trans (decodePort_ok_iff.mpr ⟨hop, hoperand⟩))]

/-- The run of operation `i`, whose catalog row is `e`, issued at `s`, has come in `k` steps to the state `t`, in phase
`p`; the environment's acts to come are `acts`, and the writes so far are `ws`, newest first. After the CMD write the
index issued is in `L_IDX`; no status has been read or delivered yet. -/
structure Underway (i : Instr) (e : CatalogEntry) (s : State) (k : Nat) (p : Phase) (acts : List EnvAct)
    (ws : List (WriteReg × Word)) (t : State) : Prop where
  row : catalog s.cfg i.op = some e
  steps : ∀ n, runSteps (n + k) s = runSteps n t
  running : Running i p t
  cfg : t.cfg = s.cfg
  lIdx : p.afterCommand = true → t.lIdx = e.idx
  lCs : t.lCs = s.lCs
  rca : t.rca = s.rca
  script : t.env.script = acts
  writes : writesOf t.history = ws ++ writesOf s.history

section
variable {i : Instr} {e : CatalogEntry} {s t : State} {k : Nat} {p : Phase} {acts : List EnvAct}
  {ws : List (WriteReg × Word)}

/-- The catalog's row is that of the present state too. -/
theorem Underway.catalog_eq (h : Underway i e s k p acts ws t) : catalog t.cfg i.op = some e :=
  h.cfg ▸ h.row

/-- One more step of a run under way. -/
theorem Underway.runSteps_succ {u : State} (h : Underway i e s k p acts ws t) (hp : p ≠ .idle)
    (hexec : exec i t = .next u) (n : Nat) : runSteps (n + (k + 1)) s = runSteps n u := by
  rw [Nat.add_comm k 1, ← Nat.add_assoc, h.steps]
  exact Machine.runSteps_succ n ((step_of_running_eq_exec h.running hp).trans hexec)

/-- The step that ends a run under way. -/
theorem Underway.ends {u : State} (h : Underway i e s k p acts ws t) (hp : p ≠ .idle)
    (hexec : exec i t = .next u) : runSteps (k + 1) s = .next u := by
  have hrun := h.runSteps_succ hp hexec 0
  rwa [Nat.zero_add] at hrun

/-- A phase that control goes on from keeps the run under way: of what `Underway` says, its accesses change the acts to
come and the writes. -/
theorem Underway.onward {m : State} {p' : Phase} {acts' : List EnvAct} {ws' : List (WriteReg × Word)}
    (h : Underway i e s k p acts ws t) (follows : p' ∈ p.next) (ha : PhaseAccess i t m)
    (hexec : exec i t = .next (goto p' m)) (hscript : m.env.script = acts')
    (hwrites : writesOf m.history = ws' ++ writesOf s.history) : Underway i e s (k + 1) p' acts' ws' (goto p' m) := by
  have hpc : t.pc = p := h.running.1
  have hidle : p ≠ .idle := by rintro rfl; cases follows
  have hresp : t.pc ≠ .resp := by rw [hpc]; rintro rfl; cases follows
  exact {
    row := h.row
    steps := h.runSteps_succ hidle hexec
    running := h.running.of_same rfl ha.start ha.cfg ha.lOp ha.lOperand
    cfg := ha.cfg.trans h.cfg
    lIdx := lIdx_of_onward (m := m) ha h.catalog_eq (hpc ▸ h.lIdx) (hpc ▸ follows)
    lCs := (ha.status_frame hresp).trans h.lCs
    rca := ha.rca.trans h.rca
    script := hscript
    writes := hwrites }

/-- START puts the run under way. -/
theorem underway_started (h : Issued i s) (he : catalog s.cfg i.op = some e) :
    Underway i e s 1 .arg s.env.script [] (started i s) := by
  have hpc : (started i s).pc = .arg := by
    rcases started_pc_cases i s with ⟨hclrf, -⟩ | ⟨-, hpc⟩
    · rw [hclrf] at he
      cases he
    · exact hpc
  exact {
    row := he
    steps := fun n => Machine.runSteps_succ n (step_of_issued h)
    running := ⟨hpc, rfl, ofCode_of_issued (s := s) h, rfl⟩
    cfg := rfl
    lIdx := nofun
    lCs := rfl
    rca := rfl
    script := rfl
    writes := rfl }

end

/-! ### The acts of the environment since the start -/

/-- From `s` to `t` the environment has made the acts `past`, oldest first, and the engine has cleared no flag: the tick
count and the static flags follow from the acts (rules R58, R61). -/
structure ActedOn (s : State) (past : List EnvAct) (t : State) : Prop where
  tickCount : t.env.tickCount = s.env.tickCount + (past.map EnvAct.ticks).sum
  flags : ∀ f, flagSet s.cfg f t.ctrl.sta = (flagSet s.cfg f s.ctrl.sta || past.any fun a => flagSet s.cfg f a.set)

theorem actedOn_started (i : Instr) (s : State) : ActedOn s [] (started i s) :=
  ⟨rfl, fun _ => (Bool.or_false _).symm⟩

/-- One more act. -/
theorem ActedOn.act {s t m : State} {past : List EnvAct} {a : EnvAct} (h : ActedOn s past t) (hcfg : t.cfg = s.cfg)
    (hact : t.env.nextAct = a) (henv : m.env = t.env.advance)
    (hsta : m.ctrl.sta = actOnSta t.cfg t.env.nextAct t.ctrl.sta) : ActedOn s (past ++ [a]) m where
  tickCount := by simp [henv, hact, h.tickCount, Nat.add_assoc]
  flags f := by simp [hsta, hcfg, hact, flagSet_actOnSta, h.flags f, Bool.or_assoc]

/-- A flag that was clear at the start and that no act has set is clear. -/
theorem ActedOn.flag_clear {s t : State} {past : List EnvAct} {f : StaticFlag} (h : ActedOn s past t)
    (hclear : flagSet s.cfg f s.ctrl.sta = false) (hnever : NeverSets s.cfg f past) :
    flagSet s.cfg f t.ctrl.sta = false := by
  rw [h.flags, hclear, Bool.false_or, List.any_eq_false]
  exact fun a ha => by rw [hnever a ha]; decide

/-- A flag that an act has set is set. -/
theorem ActedOn.flag_set {s t : State} {past : List EnvAct} {f : StaticFlag} {a : EnvAct} (h : ActedOn s past t)
    (ha : a ∈ past) (hset : flagSet s.cfg f a.set = true) : flagSet s.cfg f t.ctrl.sta = true := by
  rw [h.flags, List.any_eq_true.mpr ⟨a, ha, hset⟩, Bool.or_true]

/-! ### DISPATCH, the deadline and the first sample -/

/-- The writes of DISPATCH, newest first (rules R68, R101). -/
def dispatchWrites (c : Config) (e : CatalogEntry) (q : Word) : List (WriteReg × Word) :=
  [(.cmd, cmdWord c e.idx e.mode false true), (.arg, buildArgument e.builder q)]

section
variable {i : Instr} {e : CatalogEntry} {s t : State} {k : Nat} {a a' : EnvAct} {past acts : List EnvAct}
  {ws : List (WriteReg × Word)}

/-- The environment's next act is the script's first. -/
theorem Underway.nextAct {p : Phase} (h : Underway i e s k p (a :: acts) ws t) : t.env.nextAct = a :=
  environment_nextAct_of_script h.script

theorem Underway.arg (h : Underway i e s k .arg (a :: acts) ws t) (hacts : ActedOn s past t) :
    ∃ u, Underway i e s (k + 1) .cmd acts ((.arg, buildArgument e.builder i.operand) :: ws) u ∧
      ActedOn s (past ++ [a]) u :=
  ⟨_, h.onward (by decide) (.argument h.running.1 h.catalog_eq) (exec_arg h.catalog_eq h.running.1)
    (by simp [h.script]) (by simp [writesOf, h.writes]), hacts.act h.cfg h.nextAct rfl rfl⟩

theorem Underway.cmd (h : Underway i e s k .cmd (a :: acts) ws t) (hacts : ActedOn s past t) :
    ∃ u, Underway i e s (k + 1) .t0 acts ((.cmd, cmdWord s.cfg e.idx e.mode false true) :: ws) u ∧
      ActedOn s (past ++ [a]) u :=
  ⟨_, h.onward (by decide) (.command h.running.1 h.catalog_eq) (exec_cmd h.catalog_eq h.running.1)
    (by simp [h.script]) (by simp [writesOf, h.writes, h.cfg]), hacts.act h.cfg h.nextAct rfl rfl⟩

/-- The deadline is the tick then read plus the timeout (rule R111). -/
theorem Underway.t0 (h : Underway i e s k .t0 (a :: acts) ws t) (hacts : ActedOn s past t) :
    ∃ u, Underway i e s (k + 1) .poll acts ws u ∧ ActedOn s (past ++ [a]) u ∧
      u.lDeadline = BitVec.ofNat 32 u.env.tickCount + entryTimeout s.cfg e i.operand :=
  ⟨_, h.onward (by decide) (.deadline h.running.1 h.catalog_eq) (exec_t0 h.catalog_eq h.running.1)
    (by simp [h.script]) (by simp [writesOf, h.writes]), hacts.act h.cfg h.nextAct rfl rfl,
    by rw [← h.cfg]; rfl⟩

/-- DISPATCH and the capture of the deadline: START and three steps, each after one act. -/
theorem underway_dispatched {a1 a2 a3 : EnvAct} (h : Issued i s) (he : catalog s.cfg i.op = some e)
    (hscript : s.env.script = a1 :: a2 :: a3 :: acts) :
    ∃ u, Underway i e s 4 .poll acts (dispatchWrites s.cfg e i.operand) u ∧ ActedOn s [a1, a2, a3] u ∧
      u.lDeadline = BitVec.ofNat 32 u.env.tickCount + entryTimeout s.cfg e i.operand := by
  have hstarted := underway_started h he
  rw [hscript] at hstarted
  obtain ⟨t, ht, hacts⟩ := hstarted.arg (actedOn_started i s)
  obtain ⟨u, hu, hacts⟩ := ht.cmd hacts
  exact hu.t0 hacts

/-- Before a sum that does not wrap lies every tick less than the timeout away (rules R111, R112). -/
theorem tick_lt_deadline {now ticks : Nat} {timeout : Word} (hwrap : now % 2 ^ 32 + timeout.toNat < 2 ^ 32)
    (ht : ticks < timeout.toNat) : BitVec.ofNat 32 (now + ticks) < BitVec.ofNat 32 now + timeout := by
  rw [BitVec.lt_def, BitVec.toNat_add, BitVec.toNat_ofNat, BitVec.toNat_ofNat]
  omega

/-- The two acts that come with a sample. -/
theorem ActedOn.sample (h : Underway i e s k .poll (a :: a' :: acts) ws t) (hacts : ActedOn s past t) :
    ActedOn s (past ++ [a, a']) (takeSample t) := by
  have hafter : (environmentActs t).env.nextAct = a' :=
    environment_nextAct_of_script (rest := acts) (by simp [h.script])
  have hfirst : ActedOn s (past ++ [a]) (environmentActs t) := hacts.act h.cfg h.nextAct rfl rfl
  rw [List.append_cons]
  exact hfirst.act h.cfg hafter (by simp) (by simp)

/-- A sample that ends a response wait well leads to the CRC where the decoder looks at it, and to the clearing of the
flags otherwise (rules R115, R116, R135). -/
theorem Underway.poll_done (h : Underway i e s k .poll (a :: a' :: acts) ws t)
    (hwait : e.decoder.waitsForResponse = true)
    (hdone : e.decoder.verdict s.cfg t.lDeadline (takeSample t).lT (takeSample t).lS = .done) :
    Underway i e s (k + 1) (if e.decoder.checksCrc = true then .crc else .clrf) acts ws
      (goto (if e.decoder.checksCrc = true then .crc else .clrf) (takeSample t)) := by
  have hverdict : e.decoder.verdict (takeSample t).cfg (takeSample t).lDeadline (takeSample t).lT (takeSample t).lS =
      .done := by
    rw [takeSample_cfg, takeSample_lDeadline, h.cfg, hdone]
  have hexec := exec_poll h.catalog_eq h.running.1
  rw [pollOutcome_done hverdict, afterWait_of_waitsForResponse hwait] at hexec
  refine h.onward ?_ (.sample h.running.1) hexec (by simp [h.script]) (by simpa [writesOf] using h.writes)
  cases e.decoder.checksCrc <;> decide

/-- A response in time ends the wait with the first sample, after five steps. -/
theorem underway_of_responseInTime {a1 a2 a3 a4 a5 : EnvAct} (h : Issued i s) (he : catalog s.cfg i.op = some e)
    (hwait : e.decoder.waitsForResponse = true) (hscript : s.env.script = a1 :: a2 :: a3 :: a4 :: a5 :: acts)
    (hresponse : ResponseInTime s a1 a2 a3 a4 a5) :
    ∃ u, Underway i e s 5 (if e.decoder.checksCrc = true then .crc else .clrf) acts
        (dispatchWrites s.cfg e i.operand) u ∧
      ActedOn s [a1, a2, a3, a4, a5] u := by
  obtain ⟨⟨hwrap, hticks⟩, hrend, hclear, hnever⟩ := hresponse
  obtain ⟨t, ht, hacts, hdeadline⟩ := underway_dispatched h he hscript
  have hsampled : ActedOn s [a1, a2, a3, a4, a5] (takeSample t) := hacts.sample ht
  have hsta : (takeSample t).lS = (takeSample t).ctrl.sta := by simp
  have hlt : (takeSample t).lT < t.lDeadline := by
    have hT : entryTimeout s.cfg e i.operand = s.cfg.tResp := by
      rw [entryTimeout, timeout_of_waitsForResponse he hwait]
    have hnow : t.env.tickCount = s.env.tickCount + a1.ticks + a2.ticks + a3.ticks := by
      simp [hacts.tickCount, Nat.add_assoc]
    rw [takeSample_lT, tickReadValue_eq, ht.nextAct, hdeadline, hT, hnow]
    exact tick_lt_deadline hwrap hticks
  have hdone : e.decoder.verdict s.cfg t.lDeadline (takeSample t).lT (takeSample t).lS = .done := by
    rw [verdict_of_waitsForResponse hwait s.cfg _ hlt, hsta, hsampled.flag_clear hclear hnever,
      hsampled.flag_set (by simp) hrend]
    simp
  exact ⟨_, ht.poll_done hwait hdone, hsampled.tickCount, hsampled.flags⟩

end

/-! ### The phases of the decoder -/

section
variable {i : Instr} {e : CatalogEntry} {s t : State} {k : Nat} {a : EnvAct} {acts : List EnvAct}
  {ws : List (WriteReg × Word)}

/-- With a good CRC the decoders that read a status go on to the echo check, the others to the clearing of the flags. -/
theorem Underway.crc_good (h : Underway i e s k .crc (a :: acts) ws t) (hd : e.decoder.checksCrc = true)
    (hclear : flagSet s.cfg .ccrcfail t.ctrl.sta = false) (hset : flagSet s.cfg .ccrcfail a.set = false) :
    ∃ u, Underway i e s (k + 1) (if e.decoder.readsStatus = true then .echo else .clrf) acts ws u := by
  have hgood : flagSet t.cfg .ccrcfail (readValue .sta t) = false := by
    rw [readValue_eq, environmentActs_ctrl, h.nextAct, controller_read_sta,
      controller_act_sta, flagSet_actOnSta, h.cfg, hclear, hset]
    rfl
  have follows : (if e.decoder.readsStatus = true then .echo else .clrf) ∈ Phase.crc.next := by
    cases e.decoder.readsStatus <;> decide
  exact ⟨_, h.onward follows (.crcStatus h.running.1)
    ((exec_crc h.catalog_eq hd h.running.1).trans (congrArg _ (inspectCrc_of_good e.decoder hgood)))
    (by simp [h.script]) (by simpa [writesOf] using h.writes)⟩

/-- The value of `RESPCMD` that the echo check reads, where the act before it loads one (rule R65). -/
theorem Underway.readValue_respCmd {echo : Word} (h : Underway i e s k .echo (a :: acts) ws t)
    (hecho : a.respCmd = some echo) : readValue .respCmd t = echo := by
  simp [h.nextAct, hecho]

/-- The echo of the index issued leads to the clearing of the flags (rule R132). -/
theorem Underway.echo_match {echo : Word} (h : Underway i e s k .echo (a :: acts) ws t)
    (hd : e.decoder.readsStatus = true) (hecho : a.respCmd = some echo) (hidx : echoedIndex s.cfg echo = e.idx) :
    ∃ u, Underway i e s (k + 1) .clrf acts ws u := by
  have hmatch : echoedIndex t.cfg (readValue .respCmd t) = t.lIdx := by
    rw [h.readValue_respCmd hecho, h.cfg, h.lIdx rfl, hidx]
  exact ⟨_, h.onward (by decide) (.echo h.running.1)
    ((exec_echo h.catalog_eq hd h.running.1).trans (congrArg _ (checkEcho_of_match hmatch)))
    (by simp [h.script]) (by simpa [writesOf] using h.writes)⟩

/-- The echo of another index ends the run with `CmdCrcFailed` (rule R132). -/
theorem Underway.echo_mismatch {echo : Word} (h : Underway i e s k .echo (a :: acts) ws t)
    (hd : e.decoder.readsStatus = true) (hecho : a.respCmd = some echo) (hidx : echoedIndex s.cfg echo ≠ e.idx) :
    runSteps (k + 1) s = .next (raiseError (.protocol .cmdCrcFailed) (afterRead .respCmd t)) := by
  have hmismatch : echoedIndex t.cfg (readValue .respCmd t) ≠ t.lIdx := by
    rwa [h.readValue_respCmd hecho, h.cfg, h.lIdx rfl]
  exact h.ends nofun
    ((exec_echo h.catalog_eq hd h.running.1).trans (congrArg _ (checkEcho_of_mismatch hmismatch)))

/-- The clearing of the flags leads to the status where the decoder reads one (rules R131, R136). -/
theorem Underway.clrf_then_status (h : Underway i e s k .clrf (a :: acts) ws t) (hd : e.decoder.readsStatus = true) :
    ∃ u, Underway i e s (k + 1) .resp acts ((.icr, staticMask s.cfg) :: ws) u :=
  ⟨_, h.onward (by decide) (.allFlags h.running.1)
    ((exec_clrf_of_catalog h.catalog_eq (waitsForResponse_of_readsStatus hd) h.running.1).trans
      (congrArg _ (clearAfterResponse_of_readsStatus hd t)))
    (by simp [h.script]) (by simp [writesOf, h.writes, h.cfg])⟩

/-- The clearing of the flags ends the run where the decoder reads no status: `RC_OK`, one write more, and `L_CS` and
`x[RCA]` as at the start (rules R134, R135). -/
theorem Underway.clrf_ends_ok (h : Underway i e s k .clrf acts ws t) (hwait : e.decoder.waitsForResponse = true)
    (hd : e.decoder.readsStatus = false) :
    ∃ u, runSteps (k + 1) s = .next u ∧ u.pc = .idle ∧ u.busy = false ∧ u.result = s.cfg.rc.ok ∧
      u.resultValid = true ∧ u.rca = s.rca ∧ u.lCs = s.lCs ∧
      writesOf u.history = (.icr, staticMask s.cfg) :: ws ++ writesOf s.history := by
  have hexec := exec_clrf_of_catalog h.catalog_eq hwait h.running.1
  rw [clearAfterResponse_of_no_status hd] at hexec
  refine ⟨_, h.ends nofun hexec, rfl, rfl, ?_, rfl, h.rca, h.lCs, ?_⟩
  · exact congrArg (fun c => c.rc.ok) h.cfg
  · rw [closeOk_history, clearStaticFlags_history, writesOf, h.writes, h.cfg]
    rfl

/-- The value of `RESP1` that the status phase reads, where the act before it loads one (rule R65). -/
theorem Underway.readValue_resp1 {cs : Word} (h : Underway i e s k .resp (a :: acts) ws t)
    (hstatus : a.resp1 = some cs) : readValue .resp1 t = cs := by
  simp [h.nextAct, hstatus]

/-- The status ends the run. -/
theorem Underway.resp_ends (h : Underway i e s k .resp acts ws t) (hd : e.decoder.readsStatus = true) :
    runSteps (k + 1) s = .next (interpretStatus e.decoder t) :=
  h.ends nofun (exec_resp h.catalog_eq hd h.running.1)

end

/-! ### Runs to the phases of the decoder -/

section
variable {i : Instr} {e : CatalogEntry} {s : State} {a1 a2 a3 a4 a5 a6 a7 a8 : EnvAct} {acts : List EnvAct}

/-- After a good CRC, in six steps, the decoder checks the echo or clears the flags. -/
theorem underway_of_goodCrc (h : Issued i s) (he : catalog s.cfg i.op = some e) (hcrc : e.decoder.checksCrc = true)
    (hscript : s.env.script = a1 :: a2 :: a3 :: a4 :: a5 :: a6 :: acts) (hresponse : ResponseInTime s a1 a2 a3 a4 a5)
    (hgood : NoCrcFailure s [a1, a2, a3, a4, a5, a6]) :
    ∃ t, Underway i e s 6 (if e.decoder.readsStatus = true then .echo else .clrf) acts
      (dispatchWrites s.cfg e i.operand) t := by
  obtain ⟨hclear, hnever⟩ := hgood
  have hbefore : NeverSets s.cfg .ccrcfail [a1, a2, a3, a4, a5] := fun a ha => hnever a (List.mem_append_left [a6] ha)
  obtain ⟨t, ht, hacts⟩ := underway_of_responseInTime h he (waitsForResponse_of_checksCrc hcrc) hscript hresponse
  rw [if_pos hcrc] at ht
  exact ht.crc_good hcrc (hacts.flag_clear hclear hbefore) (hnever a6 (by simp))

/-- After a good CRC and the echo of the index issued, in eight steps, the decoder reads the status. -/
theorem underway_of_goodEcho {echo : Word} (h : Issued i s) (he : catalog s.cfg i.op = some e)
    (hstatus : e.decoder.readsStatus = true)
    (hscript : s.env.script = a1 :: a2 :: a3 :: a4 :: a5 :: a6 :: a7 :: a8 :: acts)
    (hresponse : ResponseInTime s a1 a2 a3 a4 a5) (hgood : NoCrcFailure s [a1, a2, a3, a4, a5, a6])
    (hecho : a7.respCmd = some echo) (hidx : echoedIndex s.cfg echo = e.idx) :
    ∃ t, Underway i e s 8 .resp acts ((.icr, staticMask s.cfg) :: dispatchWrites s.cfg e i.operand) t := by
  obtain ⟨t, ht⟩ := underway_of_goodCrc h he (checksCrc_of_readsStatus hstatus) hscript hresponse hgood
  rw [if_pos hstatus] at ht
  obtain ⟨u, hu⟩ := ht.echo_match hstatus hecho hidx
  exact hu.clrf_then_status hstatus

end

end Sys2Proof.Machine

/-! The runs of the decoders' operations (42_response_decoders.md), to the closing step: result, RCA and writes. -/

namespace Sys2Proof.Machine

/-- The rows of the short-status operations (rule R171). -/
theorem catalog_of_shortStatus_row {c : Config} {q arg : Word} {i : Instr} {idx : BitVec 6}
    (h : (i, arg, idx) ∈ [(Instr.app q, q, c.catIndex.app), (.selDesel q, q <<< 16, c.catIndex.selDesel),
      (.blockLength q, q, c.catIndex.blockLength), (.writeSingleBlock q, q, c.catIndex.writeSingleBlock),
      (.writeMultiBlock q, q, c.catIndex.writeMultiBlock), (.readSingleBlock q, q, c.catIndex.readSingleBlock),
      (.readMultiBlock q, q, c.catIndex.readMultiBlock), (.stopTransfer q, 0#32, c.catIndex.stopTransfer)]) :
    ∃ e, catalog c i.op = some e ∧ e.decoder = .r1 ∧ e.idx = idx ∧
      dispatchWrites c e i.operand = [(.cmd, cmdWord c idx .short false true), (.arg, arg)] := by
  fin_cases h <;> exact ⟨_, rfl, rfl, rfl, rfl⟩

/-- Settles O26: nine steps, the last of which closes with the result code of the status read. -/
theorem shortStatusOperationRunsToItsResult : Obligations.ShortStatusOperationRunsToItsResult := by
  intro s q i arg idx a1 a2 a3 a4 a5 a6 a7 a8 a9 rest echo cs hmem hi hscript hresponse hgood hecho hidx hstatus
  obtain ⟨e, he, hd, rfl, hdispatch⟩ := catalog_of_shortStatus_row hmem
  have hreads : e.decoder.readsStatus = true := by rw [hd]; rfl
  obtain ⟨t, ht⟩ := underway_of_goodEcho hi he hreads hscript hresponse hgood hecho hidx
  have hrun := ht.resp_ends hreads
  rw [hd, interpretStatus_r1, ht.readValue_resp1 hstatus, ht.cfg] at hrun
  refine ⟨_, hrun, rfl, rfl, rfl, ?_, ht.rca, ?_⟩
  · rw [closeWith_result, statusResult]
    cases classify s.cfg cs <;> rfl
  · rw [closeWith_history, readStatus_history, writesOf, ht.writes, hdispatch]
    rfl

/-- Settles O27: the six steps to the echo check, which ends the run. -/
theorem echoMismatchFailsTheOperation : Obligations.EchoMismatchFailsTheOperation := by
  intro s q i a1 a2 a3 a4 a5 a6 a7 rest echo e hmem hi hscript hresponse hgood hecho he hidx
  obtain ⟨e', he', hreads⟩ := catalog_of_mem_statusOps hmem s.cfg
  obtain rfl : e = e' := Option.some.inj (he.symm.trans he')
  obtain ⟨t, ht⟩ := underway_of_goodCrc hi he (checksCrc_of_readsStatus hreads) hscript hresponse hgood
  rw [if_pos hreads] at ht
  refine ⟨_, buildArgument e.builder i.operand, cmdWord s.cfg e.idx e.mode false true,
    ht.echo_mismatch hreads hecho hidx, rfl, rfl, ?_, rfl, ht.rca, ?_⟩
  · exact congrArg (fun c => c.rc.cmdCrcFailed) ht.cfg
  · rw [raiseError_history, afterRead_history, writesOf, ht.writes]
    rfl

/-- Settles O28: nine steps, the last of which delivers the RCA. -/
theorem setRelAddDeliversTheAddress : Obligations.SetRelAddDeliversTheAddress := by
  intro s q a1 a2 a3 a4 a5 a6 a7 a8 a9 rest echo cs hi hscript hresponse hgood hecho hidx hstatus hcrc hcmd hgeneral
  obtain ⟨t, ht⟩ := underway_of_goodEcho (e := setRelAddEntry s.cfg) hi rfl rfl hscript hresponse hgood hecho hidx
  have hvalue := ht.readValue_resp1 hstatus
  have hnone : classifyR6 t.cfg (readValue .resp1 t) = none := by
    rw [hvalue, ht.cfg, classifyR6_eq_none hcrc hcmd hgeneral]
  have hrun := (ht.resp_ends rfl).trans (congrArg _ (interpretStatus_r6_of_none hnone))
  refine ⟨_, hrun, rfl, rfl, ?_, rfl, ?_, rfl, ?_⟩
  · exact congrArg (fun c => c.rc.ok) ht.cfg
  · rw [closeWithRca_rca, hvalue]
    rfl
  · rw [closeWithRca_history, readStatus_history, writesOf, ht.writes]
    rfl

/-- Settles O29: six steps to the clearing of the flags, which ends the run. -/
theorem longIdOperationRunsToOk : Obligations.LongIdOperationRunsToOk := by
  intro s q i arg idx a1 a2 a3 a4 a5 a6 a7 rest hmem hi hscript hresponse hgood
  have hrow : ∃ e, catalog s.cfg i.op = some e ∧ e.decoder = .r2 ∧
      dispatchWrites s.cfg e i.operand = [(.cmd, cmdWord s.cfg idx .long false true), (.arg, arg)] := by
    fin_cases hmem <;> exact ⟨_, rfl, rfl, rfl⟩
  obtain ⟨e, he, hd, hdispatch⟩ := hrow
  obtain ⟨t, ht⟩ := underway_of_goodCrc hi he (by rw [hd]; rfl) hscript hresponse hgood
  rw [hdispatch, hd] at ht
  exact ht.clrf_ends_ok (by rw [hd]; rfl) (by rw [hd]; rfl)

/-- Settles O30: the wait leads straight to the clearing of the flags, which ends the run. -/
theorem appOperRunsToOk : Obligations.AppOperRunsToOk := by
  intro s q a1 a2 a3 a4 a5 a6 rest hi hscript hresponse
  obtain ⟨t, ht, -⟩ := underway_of_responseInTime (e := appOperEntry s.cfg) hi rfl rfl hscript hresponse
  obtain ⟨u, hrun, hpc, hbusy, hresult, hvalid, hrca, -, hwrites⟩ := Underway.clrf_ends_ok ht rfl rfl
  refine ⟨u, acmd41Mode s.cfg, hrun, hpc, hbusy, hresult, hvalid, hrca, fun hmode => ?_, fun hmode => ?_, hwrites⟩
  · rw [acmd41Mode, hmode]
  · rw [acmd41Mode, hmode]

end Sys2Proof.Machine

/-! The classifiers (43_error_classifier.md): the first entry of an ordered mask table that matches, the card-status and
the R6 classifier by it, and how `SET_REL_ADD` ends with the latter's answer. -/

namespace Sys2Proof.Machine

/-! ### The first match in a table -/

section
variable {α : Type} {cs m : Word} {a : α} {rest : List (Word × α)}

theorem firstMatch_cons_of_match (h : cs &&& m ≠ 0#32) : firstMatch cs ((m, a) :: rest) = some a :=
  if_pos (bne_iff_ne.mpr h)

theorem firstMatch_cons_of_no_match (h : cs &&& m = 0#32) : firstMatch cs ((m, a) :: rest) = firstMatch cs rest :=
  if_neg (by rw [h]; decide)

end

/-- In a table that lists values with their masks, the first match is the first value whose mask meets the word. -/
theorem firstMatch_map_eq_find? {α : Type} (cs : Word) (mask : α → Word) (l : List α) :
    firstMatch cs (l.map fun a => (mask a, a)) = l.find? fun a => cs &&& mask a != 0#32 := by
  induction l with
  | nil => rfl
  | cons a rest ih =>
    by_cases h : cs &&& mask a = 0#32
    · rw [List.map_cons, firstMatch_cons_of_no_match h, ih, List.find?_cons_of_neg (by simpa using h)]
    · rw [List.map_cons, firstMatch_cons_of_match h, List.find?_cons_of_pos (by simpa using h)]

/-! ### The sixteen tags in their order -/

/-- A tag stands at the position of its number (rule R152). -/
theorem cardStatusTag_all_getElem? (t : CardStatusTag) : CardStatusTag.all[t.number]? = some t := by
  cases t <;> rfl

theorem mem_cardStatusTag_all (t : CardStatusTag) : t ∈ CardStatusTag.all :=
  List.mem_of_getElem? (cardStatusTag_all_getElem? t)

/-- The number of the tag at a position is that position. -/
theorem cardStatusTag_number_get : ∀ k : Fin CardStatusTag.all.length, (CardStatusTag.all.get k).number = k := by
  decide

theorem cardStatusTag_number_getElem {k : Nat} (h : k < CardStatusTag.all.length) : CardStatusTag.all[k].number = k :=
  cardStatusTag_number_get ⟨k, h⟩

/-- The first tag with a property is the one of least number. -/
theorem cardStatusTag_find?_eq_some_iff {p : CardStatusTag → Bool} {t : CardStatusTag} :
    CardStatusTag.all.find? p = some t ↔ p t = true ∧ ∀ u : CardStatusTag, u.number < t.number → p u = false := by
  rw [List.find?_eq_some_iff_getElem]
  refine and_congr_right fun _ => ⟨?_, fun hleast => ?_⟩
  · rintro ⟨k, hk, rfl, hbefore⟩ u hu
    rw [cardStatusTag_number_getElem] at hu
    have hat : CardStatusTag.all[u.number] = u := Option.some.inj
      ((List.getElem?_eq_getElem _).symm.trans (cardStatusTag_all_getElem? u))
    simpa [hat] using hbefore u.number hu
  · obtain ⟨hk, hat⟩ := List.getElem?_eq_some_iff.mp (cardStatusTag_all_getElem? t)
    refine ⟨t.number, hk, hat, fun j hj => ?_⟩
    rw [hleast _ (by rwa [cardStatusTag_number_getElem])]
    rfl

/-! ### `CLASSIFY` -/

/-- The first match in the table of rule R152 is the first tag whose mask meets the word. -/
theorem firstMatch_cardStatusTable (c : Config) (cs : Word) :
    firstMatch cs (cardStatusTable c) = CardStatusTag.all.find? fun t => cs &&& cardStatusMask c t != 0#32 :=
  firstMatch_map_eq_find? cs (cardStatusMask c) CardStatusTag.all

/-- No entry matches exactly where no mask meets the word. -/
theorem firstMatch_cardStatusTable_eq_none_iff {c : Config} {cs : Word} :
    firstMatch cs (cardStatusTable c) = none ↔ ∀ t : CardStatusTag, cs &&& cardStatusMask c t = 0#32 := by
  rw [firstMatch_cardStatusTable, List.find?_eq_none]
  simp [mem_cardStatusTag_all]

/-- The classifier's three answers (rules R151, R153, R154). -/
theorem classify_cases (c : Config) (cs : Word) :
    (∃ t, firstMatch cs (cardStatusTable c) = some t ∧ classify c cs = some (.named t)) ∨
    (firstMatch cs (cardStatusTable c) = none ∧ cs &&& c.csSummary ≠ 0#32 ∧ classify c cs = some .unspecified) ∨
    (firstMatch cs (cardStatusTable c) = none ∧ cs &&& c.csSummary = 0#32 ∧ classify c cs = none) := by
  unfold classify
  cases firstMatch cs (cardStatusTable c) with
  | some t => exact .inl ⟨t, rfl, rfl⟩
  | none => by_cases h : cs &&& c.csSummary = 0#32 <;> simp [h]

/-- A named error is the answer exactly where it is the first match. -/
theorem classify_eq_named_iff {c : Config} {cs : Word} {t : CardStatusTag} :
    classify c cs = some (.named t) ↔ firstMatch cs (cardStatusTable c) = some t := by
  rcases classify_cases c cs with ⟨u, hfirst, h⟩ | ⟨hfirst, -, h⟩ | ⟨hfirst, -, h⟩ <;> simp [hfirst, h]

/-- Settles O40: the first match is the entry of least number. -/
theorem classifierReportsTheFirstNamedError : Obligations.ClassifierReportsTheFirstNamedError := by
  intro c cs t
  rw [classify_eq_named_iff, firstMatch_cardStatusTable, cardStatusTag_find?_eq_some_iff]
  simp

/-- Settles O41, by the classifier's three answers. -/
theorem classifierCatchAllAndSuccess : Obligations.ClassifierCatchAllAndSuccess := by
  intro c cs
  rw [← firstMatch_cardStatusTable_eq_none_iff]
  rcases classify_cases c cs with ⟨t, hfirst, h⟩ | ⟨hfirst, hsummary, h⟩ | ⟨hfirst, hsummary, h⟩
  · simp [h, hfirst]
  · simp [h, hfirst, hsummary]
  · simp [h, hfirst, hsummary]

/-! ### `CLASSIFY_R6` and the end of `SET_REL_ADD` -/

section
variable {c : Config} {cs : Word}

theorem classifyR6_of_comCrcFailed (h : cs &&& c.r6Mask.comCrcFailed ≠ 0#32) :
    classifyR6 c cs = some .r6ComCrcFailed :=
  firstMatch_cons_of_match h

theorem classifyR6_of_illegalCmd (hcrc : cs &&& c.r6Mask.comCrcFailed = 0#32)
    (h : cs &&& c.r6Mask.illegalCmd ≠ 0#32) : classifyR6 c cs = some .r6IllegalCmd :=
  (firstMatch_cons_of_no_match hcrc).trans (firstMatch_cons_of_match h)

theorem classifyR6_of_generalUnknownError (hcrc : cs &&& c.r6Mask.comCrcFailed = 0#32)
    (hcmd : cs &&& c.r6Mask.illegalCmd = 0#32) (h : cs &&& c.r6Mask.generalUnknownError ≠ 0#32) :
    classifyR6 c cs = some .r6GeneralUnknownError :=
  (firstMatch_cons_of_no_match hcrc).trans ((firstMatch_cons_of_no_match hcmd).trans (firstMatch_cons_of_match h))

end

/-- `DEC_R6` raises the R6 error of the status it has read (rules R136, R158). -/
theorem interpretStatus_r6_of_some {s : State} {err : CardError}
    (h : classifyR6 s.cfg (readValue .resp1 s) = some err) :
    interpretStatus .r6 s = raiseError (.card err) (readStatus s) := by
  rcases finishR6_cases (readStatus s) with ⟨hnone, -⟩ | ⟨err', herr, hfinish⟩
  · cases h.symm.trans hnone
  · obtain rfl : err = err' := Option.some.inj (h.symm.trans herr)
    exact hfinish

/-- Settles O24, by the R6 classifier's answer for the status read. -/
theorem relativeAddressIsDeliveredOrAnErrorRaised : Obligations.RelativeAddressIsDeliveredOrAnErrorRaised := by
  intro s q hp v m
  have hexec : exec (.setRelAdd q) s = .next (interpretStatus .r6 s) := exec_resp (e := setRelAddEntry s.cfg) rfl rfl hp
  have hraise (err : CardError) (h : classifyR6 s.cfg v = some err) :
      exec (.setRelAdd q) s = .next { m with result := err.code s.cfg } :=
    hexec.trans (congrArg _ (interpretStatus_r6_of_some h))
  refine ⟨fun hcrc => ?_, fun hcrc hcmd => ?_, fun hcrc hcmd hgeneral => ?_, fun hcrc hcmd hgeneral => ?_⟩
  · exact hraise _ (classifyR6_of_comCrcFailed hcrc)
  · exact hraise _ (classifyR6_of_illegalCmd hcrc hcmd)
  · exact hraise _ (classifyR6_of_generalUnknownError hcrc hcmd hgeneral)
  · exact hexec.trans (congrArg _ (interpretStatus_r6_of_none (classifyR6_eq_none hcrc hcmd hgeneral)))

end Sys2Proof.Machine

/-! The codes of the 23 errors (rules R92, R160, R200). -/

namespace Sys2Proof.Machine

/-- Every error is in the list of rule R201. -/
theorem mem_engineError_all (e : EngineError) : e ∈ EngineError.all := by
  match e with
  | .card (.named t) => simp [EngineError.all, mem_cardStatusTag_all]
  | .timeout | .protocol .cmdCrcFailed | .protocol .cmdRespTimeout | .card .unspecified | .card .r6ComCrcFailed
  | .card .r6IllegalCmd | .card .r6GeneralUnknownError => decide

/-- The errors in the order in which the record lists their codes (rule R92). -/
def errorsInCodeOrder : List EngineError :=
  [.timeout, .protocol .cmdCrcFailed, .protocol .cmdRespTimeout, .card .unspecified, .card .r6ComCrcFailed,
   .card .r6IllegalCmd, .card .r6GeneralUnknownError] ++ CardStatusTag.all.map fun t => .card (.named t)

theorem errorsInCodeOrder_perm : errorsInCodeOrder.Perm EngineError.all := by
  decide

/-- The record's codes are that of success and those of the errors. -/
theorem resultCodes_all_eq (c : Config) : c.rc.all = c.rc.ok :: errorsInCodeOrder.map (EngineError.code c) := rfl

/-- In a well-formed record no error has the code of success and no two errors have the same. -/
theorem errorCodes_of_wellFormed {c : Config} (h : c.wellFormed = true) :
    (∀ e : EngineError, e.code c ≠ c.rc.ok) ∧ ∀ e e' : EngineError, e.code c = e'.code c → e = e' := by
  have hnodup : c.rc.all.Nodup := by
    simp only [Config.wellFormed, Bool.and_eq_true, ResultCodes.wellFormed, decide_eq_true_eq] at h
    obtain ⟨⟨⟨⟨⟨⟨⟨-, -⟩, hcodes⟩, -⟩, -⟩, -⟩, -⟩, -⟩ := h
    exact hcodes
  rw [resultCodes_all_eq, List.nodup_cons] at hnodup
  obtain ⟨hok, hcodes⟩ := hnodup
  have hmem (e : EngineError) : e ∈ errorsInCodeOrder := errorsInCodeOrder_perm.mem_iff.mpr (mem_engineError_all e)
  exact ⟨fun e he => hok (he ▸ List.mem_map_of_mem (hmem e)),
    fun e e' he => List.inj_on_of_nodup_map hcodes (hmem e) (hmem e') he⟩

/-- On this hardware the code of the named error `k` is `0x40 + k` (rules R92, R152). -/
theorem hardware_code_named (t : CardStatusTag) :
    ((EngineError.card (.named t)).code hardwareConfig).toNat = 0x40 + t.number := by
  cases t <;> rfl

/-- Settles O42: in general by the record's list of codes, on this hardware by their values. -/
theorem resultCodesAreDistinct : Obligations.ResultCodesAreDistinct := by
  refine ⟨fun c hc => ?_, mem_engineError_all, rfl, ?_, hardware_code_named⟩
  · obtain ⟨hok, hinj⟩ := errorCodes_of_wellFormed hc
    exact ⟨hinj, hok⟩
  · decide

end Sys2Proof.Machine

/-! The catalog's operations with an end of their own (44_command_catalog.md): `CLRF`, which issues no command (rule
R186), `OPER_COND` on a response with `CCRCFAIL` (rule R175), and `IDLE` (rule R172). -/

namespace Sys2Proof.Machine

/-! ### `CLRF` -/

/-- In `PH_CLRF` the step of `CLRF` clears the flags and closes. -/
theorem exec_clrf_closes {s : State} (q : Word) (hp : s.pc = .clrf) :
    exec (.clrf q) s = .next (closeOk (clearStaticFlags s)) := by
  rw [exec_clrf, runClearFlags, hp]

/-- Settles O25: the step is the write of `STATIC_MASK` and the closing step. -/
theorem clearFlagsOperationEndsOk : Obligations.ClearFlagsOperationEndsOk :=
  fun _ q hp => exec_clrf_closes q hp

/-- START puts `CLRF` in its one phase, and the step of that phase closes. -/
theorem runSteps_clrf {s : State} {q : Word} (h : Issued (.clrf q) s) :
    runSteps 2 s = .next (closeOk (clearStaticFlags (started (.clrf q) s))) := by
  have hrunning : Running (.clrf q) .clrf (started (.clrf q) s) :=
    ⟨if_pos rfl, rfl, ofCode_of_issued (s := s) h, rfl⟩
  rw [runSteps_succ 1 (step_of_issued h)]
  exact runSteps_succ 0 ((step_of_running_eq_exec hrunning nofun).trans (exec_clrf_closes q hrunning.1))

/-- A clearing of the flags leaves each of the ten clear. -/
theorem flagSet_clearStaticFlags {s : State} (h : s.cfg.wellFormed = true) (f : StaticFlag) :
    flagSet s.cfg f (clearStaticFlags s).ctrl.sta = false := by
  rw [clearStaticFlags_ctrl, controller_write_icr_sta, flagSet_clearFlags h, clearsFlag_staticMask h]
  exact Bool.and_false _

/-- A clearing of the flags establishes the launch premise where no command is outstanding by then (rules R108,
R234). -/
theorem launchPremise_clearStaticFlags {s : State} (h : s.cfg.wellFormed = true)
    (hnone : (environmentActs s).ctrl.outstanding = false) : LaunchPremise (clearStaticFlags s) :=
  ⟨clearFlags_staticMask_and h _, hnone⟩

/-- Settles O33: START and the closing step leave the controller alone, so the flags are as the write of `STATIC_MASK`
leaves them. -/
theorem clearFlagsOperationClearsAllTen : Obligations.ClearFlagsOperationClearsAllTen := by
  intro s q hi hc
  refine ⟨_, runSteps_clrf hi, rfl, rfl, rfl, rfl, rfl, fun f => ?flags, fun hnone => ?launch⟩
  case flags => exact flagSet_clearStaticFlags (s := started (.clrf q) s) hc f
  case launch => exact launchPremise_clearStaticFlags (s := started (.clrf q) s) hc hnone

/-! ### `OPER_COND` -/

section
variable {i : Instr} {e : CatalogEntry} {s t : State} {k : Nat} {acts : List EnvAct} {ws : List (WriteReg × Word)}

/-- With `CCRCFAIL` set the CRC inspection leads to the clearing of that flag: no act of the environment takes it away
(rules R61, R115). -/
theorem Underway.crc_failed {a : EnvAct} (h : Underway i e s k .crc (a :: acts) ws t) (hd : e.decoder.checksCrc = true)
    (hset : flagSet s.cfg .ccrcfail t.ctrl.sta = true) : ∃ u, Underway i e s (k + 1) .clrc acts ws u := by
  have hfail : flagSet t.cfg .ccrcfail (readValue .sta t) = true := flagSet_environmentActs (h.cfg ▸ hset)
  exact ⟨_, h.onward (by decide) (.crcStatus h.running.1)
    ((exec_crc h.catalog_eq hd h.running.1).trans (congrArg _ (inspectCrc_of_fail e.decoder hfail)))
    (by simp [h.script]) (by simpa [writesOf] using h.writes)⟩

/-- The clearing of `CCRCFAIL` ends the run with `CmdCrcFailed` (rule R115). -/
theorem Underway.clrc_ends (h : Underway i e s k .clrc acts ws t) (hd : e.decoder.checksCrc = true) :
    ∃ u, runSteps (k + 1) s = .next u ∧ u.busy = false ∧ u.result = s.cfg.rc.cmdCrcFailed ∧
      writesOf u.history = (.icr, icrMask s.cfg .ccrcfail) :: ws ++ writesOf s.history := by
  refine ⟨_, h.ends nofun (exec_clrc h.catalog_eq hd h.running.1), rfl, ?_, ?_⟩
  · exact congrArg (fun c => c.rc.cmdCrcFailed) h.cfg
  · rw [clearCrcFail_history, writesOf, h.writes, h.cfg]
    rfl

end

/-! `P_OPER_COND_DECODER` decides between `DEC_R3` and `DEC_R2` (rule R175). -/

theorem operCondEntry_decoder_of_noPayload {c : Config} (h : c.operCondDecoder = .noPayload) :
    (operCondEntry c).decoder = .r3 := by
  simp only [operCondEntry, operCondDecoder, h]

theorem operCondEntry_decoder_of_longId {c : Config} (h : c.operCondDecoder = .longId) :
    (operCondEntry c).decoder = .r2 := by
  simp only [operCondEntry, operCondDecoder, h]

/-- Settles O31: `DEC_R3` goes from the wait straight to the clearing of the flags; `DEC_R2` looks at the CRC, and the
flag that the last act before has set is still there. -/
theorem operCondDecoderDecidesOnCrcFailure : Obligations.OperCondDecoderDecidesOnCrcFailure := by
  intro s q a1 a2 a3 a4 a5 a6 a7 rest hi hscript hresponse hfail
  refine ⟨fun hparam => ?noPayload, fun hparam => ?longId⟩
  case noPayload =>
    have hd := operCondEntry_decoder_of_noPayload hparam
    have hwait : (operCondEntry s.cfg).decoder.waitsForResponse = true := by rw [hd]; rfl
    obtain ⟨t, ht, -⟩ := underway_of_responseInTime (e := operCondEntry s.cfg) hi rfl hwait hscript hresponse
    rw [hd] at ht
    obtain ⟨u, hrun, -, hbusy, hresult, -, -, -, hwrites⟩ := Underway.clrf_ends_ok ht hwait (by rw [hd]; rfl)
    exact ⟨u, hrun, hbusy, hresult, hwrites⟩
  case longId =>
    have hd := operCondEntry_decoder_of_longId hparam
    have hcrc : (operCondEntry s.cfg).decoder.checksCrc = true := by rw [hd]; rfl
    have hwait := waitsForResponse_of_checksCrc hcrc
    obtain ⟨t, ht, hacts⟩ := underway_of_responseInTime (e := operCondEntry s.cfg) hi rfl hwait hscript hresponse
    rw [if_pos hcrc] at ht
    obtain ⟨u, hu⟩ := ht.crc_failed hcrc (hacts.flag_set (by simp) hfail)
    exact hu.clrc_ends hcrc

/-! ### `IDLE` -/

/-- Until the tick source wraps, every tick at least the timeout away has reached the deadline (rules R111, R112). -/
theorem deadline_le_tick {now ticks : Nat} {timeout : Word} (ht : timeout.toNat ≤ ticks)
    (hwrap : now % 2 ^ 32 + ticks < 2 ^ 32) :
    BitVec.ofNat 32 now + timeout ≤ BitVec.ofNat 32 (now + ticks) := by
  rw [BitVec.le_def, BitVec.toNat_add, BitVec.toNat_ofNat, BitVec.toNat_ofNat]
  omega

/-- The state `m` in which `IDLE q`, issued at `s`, has taken its first sample: the deadline was captured at the count
`now`, the sample's tick read `ticks` later, and `past` are the environment's acts so far. -/
structure IdleSampled (q : Word) (s : State) (now ticks : Nat) (past : List EnvAct) (m : State) : Prop where
  cfg : m.cfg = s.cfg
  lDeadline : m.lDeadline = BitVec.ofNat 32 now + q
  lT : m.lT = BitVec.ofNat 32 (now + ticks)
  lS : m.lS = m.ctrl.sta
  acts : ActedOn s past m
  writes : writesOf m.history =
    (.cmd, cmdWord s.cfg s.cfg.catIndex.idle .none false true) :: (.arg, 0#32) :: writesOf s.history

/-- The fifth step of `IDLE` takes the first sample and acts on it. -/
theorem runSteps_idle {s : State} {q : Word} {a1 a2 a3 a4 a5 : EnvAct} {rest : List EnvAct} (h : Issued (.idle q) s)
    (hscript : s.env.script = a1 :: a2 :: a3 :: a4 :: a5 :: rest) :
    ∃ m, runSteps 5 s = .next (pollOutcome .waitSent m) ∧
      IdleSampled q s (s.env.tickCount + a1.ticks + a2.ticks + a3.ticks) a4.ticks [a1, a2, a3, a4, a5] m := by
  obtain ⟨t, ht, hacts, hdeadline⟩ := underway_dispatched (e := idleEntry s.cfg) h rfl hscript
  have hnow : t.env.tickCount = s.env.tickCount + a1.ticks + a2.ticks + a3.ticks := by
    simp [hacts.tickCount, Nat.add_assoc]
  refine ⟨takeSample t, ht.ends nofun (exec_poll ht.catalog_eq ht.running.1), ?_⟩
  exact {
    cfg := (takeSample_cfg t).trans ht.cfg
    lDeadline := by rw [takeSample_lDeadline, hdeadline, hnow]; rfl
    lT := by rw [takeSample_lT, tickReadValue_eq, ht.nextAct, hnow]
    lS := by simp
    acts := hacts.sample ht
    writes := by rw [takeSample_history]; exact ht.writes }

/-- A sample before the deadline with `CMDSENT` ends `IDLE` well (rule R118). -/
theorem IdleSampled.sent {q : Word} {s m : State} {now ticks : Nat} {past : List EnvAct}
    (h : IdleSampled q s now ticks past m) (hlt : m.lT < m.lDeadline)
    (hsent : flagSet s.cfg .cmdsent m.ctrl.sta = true) : pollOutcome .waitSent m = closeOk m := by
  have hdone : Decoder.waitSent.verdict m.cfg m.lDeadline m.lT m.lS = .done := by
    rw [verdict_waitSent m.cfg m.lS hlt, h.lS, h.cfg, if_pos hsent]
  exact pollOutcome_done hdone

/-- Settles O32, by whether the first sample's tick lies before the deadline; after it STA is not looked at. -/
theorem idleOperationSucceedsBeforeTheDeadline : Obligations.IdleOperationSucceedsBeforeTheDeadline := by
  intro s q a1 a2 a3 a4 a5 rest hi hscript now
  obtain ⟨m, hrun, hm⟩ := runSteps_idle hi hscript
  refine ⟨fun ⟨hsum, hticks⟩ hset => ?sent, fun _ hticks hwrap => ?expired⟩
  case sent =>
    have hlt : m.lT < m.lDeadline := by
      rw [hm.lT, hm.lDeadline]
      exact tick_lt_deadline hsum hticks
    rw [hm.sent hlt (hm.acts.flag_set (by simp) hset)] at hrun
    exact ⟨_, hrun, rfl, congrArg (fun c => c.rc.ok) hm.cfg, rfl, hm.writes⟩
  case expired =>
    have hle : m.lDeadline ≤ m.lT := by
      rw [hm.lT, hm.lDeadline]
      exact deadline_le_tick hticks hwrap
    rw [pollOutcome_expired (verdict_of_reached .waitSent m.cfg m.lS hle)] at hrun
    exact ⟨_, hrun, rfl, congrArg (fun c => c.rc.timeout) hm.cfg, rfl, hm.writes⟩

end Sys2Proof.Machine

/-! How an operation can end (60_exceptions.md): what raising an error changes (rule R207), and which results the phases
of each decoder close with, against the table of rule R204. -/

namespace Sys2Proof.Machine

/-! ### Raising an error -/

/-- Settles O44: raising an error is the closing step with the error's code. -/
theorem raiseErrorWritesResultAlone : Obligations.RaiseErrorWritesResultAlone :=
  fun _ _ => rfl

/-! ### The results of a decoder -/

/-- The three errors of an R6 status (rule R158). -/
def r6Results (c : Config) : List (BitVec 8) :=
  [c.rc.r6ComCrcFailed, c.rc.r6IllegalCmd, c.rc.r6GeneralUnknownError]

/-- The results that a decoder can end with: the rows of rule R204's table by decoder. -/
def Decoder.results (c : Config) : Decoder → List (BitVec 8)
  | .waitSent => [c.rc.ok, c.rc.timeout]
  | .r1 => shortStatusResults c
  | .r2 => crcResults c
  | .r3 => waitResults c
  | .r6 => crcResults c ++ r6Results c

/-- Rule R204's table by operation is the table by decoder along the catalog, `OPER_COND` under either value of its
parameter (rules R171, R175). -/
theorem allowedResults_of_catalog {c : Config} {o : Op} {e : CatalogEntry} (he : catalog c o = some e) :
    allowedResults c o = e.decoder.results c := by
  cases o <;> simp only [catalog, Option.some.injEq, reduceCtorEq] at he <;> subst he
  case operCond =>
    cases hd : c.operCondDecoder with
    | noPayload => rw [operCondEntry_decoder_of_noPayload hd, allowedResults, hd, Decoder.results]
    | longId => rw [operCondEntry_decoder_of_longId hd, allowedResults, hd, Decoder.results]
  all_goals rfl

section
variable {d : Decoder} (c : Config)

/-! Every wait can end well, and every wait at its deadline (rules R112, R118). -/

variable (d) in
theorem ok_mem_results : c.rc.ok ∈ d.results c := by
  cases d <;> simp [Decoder.results, shortStatusResults, crcResults, waitResults]

variable (d) in
theorem timeout_mem_results : c.rc.timeout ∈ d.results c := by
  cases d <;> simp [Decoder.results, shortStatusResults, crcResults, waitResults]

/-! The two protocol errors are results of the decoders that make the check behind them (rules R113, R115). -/

theorem cmdRespTimeout_mem_results (hd : d.waitsForResponse = true) : c.rc.cmdRespTimeout ∈ d.results c := by
  cases d
  case waitSent => cases hd
  all_goals simp [Decoder.results, shortStatusResults, crcResults, waitResults]

theorem cmdCrcFailed_mem_results (hd : d.checksCrc = true) : c.rc.cmdCrcFailed ∈ d.results c := by
  cases d
  case waitSent | r3 => cases hd
  all_goals simp [Decoder.results, shortStatusResults, crcResults]

end

/-- The sixteen tags have the codes of `CardError` 0 to 15 (rules R92, R152). -/
theorem named_code_mem_cardStatusCodes (c : Config) (t : CardStatusTag) :
    (CardError.named t).code c ∈ cardStatusCodes c :=
  have hlt : t.number < 16 := by cases t <;> decide
  List.mem_append_left _ (List.mem_map_of_mem (List.mem_range.mpr hlt))

/-- A short status ends in `RC_OK`, in a named error or in the catch-all, never in an R6 error (rules R151, R153). -/
theorem statusResult_mem_shortStatusResults (c : Config) (cs : Word) : statusResult c cs ∈ shortStatusResults c := by
  unfold statusResult
  rcases classify_cases c cs with ⟨t, -, h⟩ | ⟨-, -, h⟩ | ⟨-, -, h⟩ <;> rw [h]
  · exact List.mem_append_right _ (named_code_mem_cardStatusCodes c t)
  · exact List.mem_append_right _ (List.mem_append_right _ List.mem_cons_self)
  · exact ok_mem_results .r1 c

/-- The first match in a table is a value of the table. -/
theorem mem_of_firstMatch {α : Type} {cs : Word} {a : α} {l : List (Word × α)} (h : firstMatch cs l = some a) :
    a ∈ l.map Prod.snd := by
  induction l with
  | nil => cases h
  | cons entry rest ih =>
    obtain ⟨m, b⟩ := entry
    by_cases hm : cs &&& m = 0#32
    · exact List.mem_cons_of_mem _ (ih (firstMatch_cons_of_no_match hm ▸ h))
    · obtain rfl := Option.some.inj ((firstMatch_cons_of_match hm).symm.trans h)
      exact List.mem_cons_self

/-- The R6 classifier answers with an error of R6 alone (rule R158). -/
theorem code_mem_r6Results_of_classifyR6 {c : Config} {cs : Word} {err : CardError} (h : classifyR6 c cs = some err) :
    err.code c ∈ r6Results c :=
  List.mem_map_of_mem (f := CardError.code c) (mem_of_firstMatch h)

/-! ### The results of each phase -/

/-- Where a step has led to `PH_IDLE`, the result is one of `l`. -/
def ClosesAmong (l : List (BitVec 8)) (t : State) : Prop :=
  t.pc = .idle → t.result ∈ l

theorem closesAmong_of_ne_idle {l : List (BitVec 8)} {t : State} (ht : t.pc ≠ .idle) : ClosesAmong l t :=
  fun h => absurd h ht

theorem closesAmong_closeOk {c : Config} {d : Decoder} {m : State} (hcfg : m.cfg = c) :
    ClosesAmong (d.results c) (closeOk m) := by
  intro _
  rw [closeOk_result, hcfg]
  exact ok_mem_results d c

theorem closesAmong_raiseError {c : Config} {l : List (BitVec 8)} {m : State} {err : EngineError} (hcfg : m.cfg = c)
    (h : err.code c ∈ l) : ClosesAmong l (raiseError err m) := by
  intro _
  rwa [raiseError_result, hcfg]

/-- A poll iteration that ends the operation ends it at the deadline, or well after the idle wait. -/
theorem pollOnce_closesAmong (d : Decoder) (s : State) : ClosesAmong (d.results s.cfg) (pollOnce d s) := by
  rcases pollOnce_cases d s with ⟨-, h⟩ | ⟨-, h⟩ | ⟨-, h⟩ | ⟨-, h⟩ <;> rw [h]
  · exact closesAmong_raiseError (takeSample_cfg s) (timeout_mem_results d s.cfg)
  · exact closesAmong_of_ne_idle nofun
  · rcases afterWait_cases d (takeSample s) with ⟨-, h'⟩ | ⟨-, h'⟩ | ⟨-, h'⟩ <;> rw [h']
    · exact closesAmong_closeOk (takeSample_cfg s)
    · exact closesAmong_of_ne_idle nofun
    · exact closesAmong_of_ne_idle nofun
  · exact closesAmong_of_ne_idle nofun

/-- The CRC inspection never ends the operation. -/
theorem inspectCrc_pc_ne_idle (d : Decoder) (s : State) : (inspectCrc d s).pc ≠ .idle := by
  rcases inspectCrc_cases d s with ⟨-, h⟩ | ⟨-, -, h⟩ | ⟨-, -, h⟩ <;> rw [h] <;> nofun

/-- An echo mismatch has the code of a CRC failure (rule R203). -/
theorem checkEcho_closesAmong {d : Decoder} (hd : d.readsStatus = true) (s : State) :
    ClosesAmong (d.results s.cfg) (checkEcho s) := by
  rcases checkEcho_cases s with ⟨-, h⟩ | ⟨-, h⟩ <;> rw [h]
  · exact closesAmong_of_ne_idle nofun
  · exact closesAmong_raiseError rfl (cmdCrcFailed_mem_results s.cfg (checksCrc_of_readsStatus hd))

theorem clearAfterResponse_closesAmong (d : Decoder) (s : State) :
    ClosesAmong (d.results s.cfg) (clearAfterResponse d s) := by
  cases hd : d.readsStatus with
  | true => rw [clearAfterResponse_of_readsStatus hd]; exact closesAmong_of_ne_idle nofun
  | false => rw [clearAfterResponse_of_no_status hd]; exact closesAmong_closeOk (clearStaticFlags_cfg s)

/-- The status phase ends with the answer of its decoder's own classifier (rules R131, R136). -/
theorem interpretStatus_closesAmong {d : Decoder} (hd : d.readsStatus = true) (s : State) :
    ClosesAmong (d.results s.cfg) (interpretStatus d s) := by
  cases d
  case waitSent | r2 | r3 => cases hd
  case r1 =>
    rw [interpretStatus_r1]
    exact fun _ => statusResult_mem_shortStatusResults s.cfg _
  case r6 =>
    cases herr : classifyR6 s.cfg (readValue .resp1 s) with
    | none =>
      rw [interpretStatus_r6_of_none herr]
      exact fun _ => ok_mem_results .r6 s.cfg
    | some err =>
      rw [interpretStatus_r6_of_some herr]
      exact closesAmong_raiseError rfl (List.mem_append_right _ (code_mem_r6Results_of_classifyR6 herr))

/-- A step of a running operation that ends it ends it with a result of rule R204's table. -/
theorem exec_closesAmong {i : Instr} {s t : State} (h : exec i s = .next t) (hp : s.pc ≠ .idle) :
    ClosesAmong (allowedResults s.cfg i.op) t := by
  rcases exec_next h with ⟨hidle, -, -⟩ | ⟨hi, -, rfl⟩ | ⟨e, he, phase⟩
  case inl => exact absurd hidle hp
  case inr.inl =>
    rw [hi]
    exact fun _ => List.mem_singleton.mpr rfl
  case inr.inr =>
    rw [allowedResults_of_catalog he]
    rcases phase with ⟨-, rfl⟩ | ⟨-, rfl⟩ | ⟨-, rfl⟩ | ⟨-, rfl⟩ | ⟨-, hd, rfl⟩ | ⟨-, -, rfl⟩ | ⟨-, hd, rfl⟩ |
      ⟨-, hd, rfl⟩ | ⟨-, -, rfl⟩ | ⟨-, hd, rfl⟩
    · exact closesAmong_of_ne_idle nofun
    · exact closesAmong_of_ne_idle nofun
    · exact closesAmong_of_ne_idle nofun
    · exact pollOnce_closesAmong e.decoder s
    · exact closesAmong_raiseError (memWrite_cfg _ _ s) (cmdRespTimeout_mem_results s.cfg hd)
    · exact closesAmong_of_ne_idle (inspectCrc_pc_ne_idle e.decoder s)
    · exact closesAmong_raiseError (memWrite_cfg _ _ s) (cmdCrcFailed_mem_results s.cfg hd)
    · exact checkEcho_closesAmong hd s
    · exact clearAfterResponse_closesAmong e.decoder s
    · exact interpretStatus_closesAmong hd s

/-- Settles O49: the result is one of its decoder's, and every closing step writes it and clears BUSY. -/
theorem operationEndsWithAnAllowedResult : Obligations.OperationEndsWithAnAllowedResult := by
  intro i s t h hp hidle
  obtain ⟨m, -, hending⟩ := exec_running h hp
  rcases hending.result_cases with ⟨hgoes, -⟩ | ⟨-, hbusy, hvalid, -⟩
  · exact absurd hidle hgoes
  · exact ⟨exec_closesAmong h hp hidle, hvalid, hbusy⟩

end Sys2Proof.Machine

/-! A wait whose tick source advances at every access (rules R242, R246): the acts still scripted after some of them, and
the case of `waitEndsWhereTheTickSourceReachesTheDeadline` in which every act is a tick nearer to the deadline. -/

namespace Sys2Proof.Machine

/-! ### The script, act by act -/

/-- An act takes the script's head. -/
theorem after_script (n : Nat) (e : Environment) : (e.after n).script = e.script.drop n := by
  induction n with
  | zero => rfl
  | succ n ih => rw [after_succ, environment_advance_script, ih, List.tail_drop]

/-- While the script lasts, the acts are the scripted ones and none is free. -/
theorem after_nextAct_mem_script {n : Nat} {e : Environment} (h : n < e.script.length) :
    (e.after n).nextAct ∈ e.script := by
  have hscript : (e.after n).script = e.script[n] :: e.script.drop (n + 1) := by
    rw [after_script, List.drop_eq_getElem_cons h]
  rw [environment_nextAct_of_script hscript]
  exact List.getElem_mem h

/-- Where every scripted act is at least a tick, the count has grown by at least the number of acts. -/
theorem add_le_after_tickCount {n : Nat} {e : Environment} (hn : n ≤ e.script.length)
    (hticks : ∀ a ∈ e.script, 1 ≤ a.ticks) : e.tickCount + n ≤ (e.after n).tickCount := by
  induction n with
  | zero => exact Nat.le_refl _
  | succ n ih =>
    have hbefore := ih (by omega)
    have hact := hticks _ (after_nextAct_mem_script (n := n) (by omega))
    rw [after_succ, environment_advance_tickCount]
    omega

/-! ### The wait -/

/-- Settles O34: at a tick an act, the tick source reaches the deadline within `deadline - now` acts, all of them
scripted, so the wait ends by `waitEndsWhereTheTickSourceReachesTheDeadline`, at two acts a sample within the bound. -/
theorem pollLoopEndsByTheDeadline : Obligations.PollLoopEndsByTheDeadline := by
  intro s q i b hi h hahead hmargin hlength hticks
  have hreach : deadlineCount s ≤
      (s.env.after (s.lDeadline.toNat - s.env.tickCount % 2 ^ 32)).tickCount := by
    have hgrown := add_le_after_tickCount (n := s.lDeadline.toNat - s.env.tickCount % 2 ^ 32) (e := s.env) (by omega)
      (fun a ha => (hticks a ha).1)
    have hmod := Nat.mod_le s.env.tickCount (2 ^ 32)
    unfold deadlineCount
    omega
  have hacts : ∀ j ≤ s.lDeadline.toNat - s.env.tickCount % 2 ^ 32, (s.env.after j).nextAct.ticks ≤ b :=
    fun j hj => (hticks _ (after_nextAct_mem_script (by omega))).2
  obtain ⟨n, t, hn, hrun, hpc⟩ :=
    waitEndsWhereTheTickSourceReachesTheDeadline s q i b _ hi h hahead hmargin hreach hacts
  exact ⟨n, t, by omega, hrun, hpc⟩

end Sys2Proof.Machine
